-- ==== Sys2Proof/Word.lean ====
section
/-! DEFINITION. The words of the NL408: the widths that spec/00_scope.md Table 0-1 and the field tables give. -/

namespace Sys2Proof

/-- One byte of a frame (Chapter 11). -/
abbrev Byte := BitVec 8
/-- One register of the management window (R160). -/
abbrev Word := BitVec 32
/-- A request tag (Table 0-1). -/
abbrev Tag := BitVec 16
/-- A session epoch (R77). -/
abbrev Epoch := BitVec 16
/-- A holdings stamp (R55). -/
abbrev Stamp := BitVec 32
/-- A fencing token (R24). -/
abbrev Token := BitVec 64
/-- A resource key (R2). -/
abbrev Key := BitVec 64
/-- A value of a timebase, or a due time on it (R66, R117). -/
abbrev Time := BitVec 32
/-- Agents are numbered 0 to 7 (spec/00_scope.md 3.3). -/
abbrev AgentId := Fin 8
/-- One item for each of the eight agents. -/
abbrev Per (α : Type) := Vector α 8

end Sys2Proof
end

