-- ==== Sys2Proof/Syntax.lean ====
section
/-! DEFINITION. The commands of the NL408: one constructor for each row of spec/opcode_table.json, with the operands
that tell one occurrence of the row's event from another. The table gives the rows no operands; these are the
model's (log entries 1, 7, 8 and 9). -/

namespace Sys2Proof

/-- The configuration registers (Table 10-2, Tables 11-10 and 11-11). -/
inductive ConfigReg where
  | grace
  | lapse
  | countThreshold
  | holdTime
  | retransmitInterval
  | retransmitLimit
  | membershipQuota (a : AgentId)
  | waitQuota (a : AgentId)
  deriving DecidableEq, Repr

/-- The ten per-agent statistics, in register order (Table 10-5, Table 11-11). -/
inductive AgentStat where
  | requestsTaken
  | grants
  | waitsAdmitted
  | waitExpiries
  | digestsSent
  | retransmissions
  | acksIgnored
  | framesDiscarded
  | replays
  | linkDowns
  deriving DecidableEq, Repr

/-- The 81 statistics (R171). -/
inductive StatReg where
  | quarantines
  | agent (a : AgentId) (k : AgentStat)
  deriving DecidableEq, Repr

/-- The commands that wait for a management turn (R20, Table 10-3). -/
inductive ArbiterCommand where
  | breakRecord
  | inspectRecord
  | clearQuarantine
  | resetDirectory
  deriving DecidableEq, Repr

/-- One command: a step of the part (spec/95_what_each_step_holds.md), whole and indivisible. -/
inductive Instr where
  /-- POWER_ON_RESET (R15): RESET_N goes low. -/
  | powerOnReset
  /-- LINK_UP (R133): the receiver of `a`'s port locks. -/
  | linkUp (a : AgentId)
  /-- LINK_DOWN (R134): the receiver of `a`'s port loses lock. -/
  | linkDown (a : AgentId)
  /-- KEEPALIVE (R84): the receiver of `a`'s port completes this frame. -/
  | keepalive (a : AgentId) (frame : List Byte)
  /-- ACK (R121): the receiver of `a`'s port completes this frame. -/
  | ack (a : AgentId) (frame : List Byte)
  /-- REQUEST (R137): the receiver of `a`'s port completes this frame. -/
  | request (a : AgentId) (frame : List Byte)
  /-- OPEN (R79): taken at `a`'s turn. -/
  | openSession (a : AgentId)
  /-- RESUME (R81): taken at `a`'s turn. -/
  | resume (a : AgentId)
  /-- CLOSE (R90): taken at `a`'s turn. -/
  | close (a : AgentId)
  /-- FLUSH (R119): taken at `a`'s turn. -/
  | flush (a : AgentId)
  /-- ACQUIRE (R32 to R37): taken at `a`'s turn. -/
  | acquire (a : AgentId)
  /-- RELEASE (R38): taken at `a`'s turn. -/
  | release (a : AgentId)
  /-- DOWNGRADE (R39): taken at `a`'s turn. -/
  | downgrade (a : AgentId)
  /-- UPGRADE (R40, R41): taken at `a`'s turn. -/
  | upgrade (a : AgentId)
  /-- CANCEL (R42): taken at `a`'s turn. -/
  | cancel (a : AgentId)
  /-- LOOKUP (R59): taken at `a`'s turn. -/
  | lookup (a : AgentId)
  /-- LIST (R60): taken at `a`'s turn. -/
  | list (a : AgentId)
  /-- EXPIRE_WAIT (R70): taken at the expiry queue's turn. -/
  | expireWait
  /-- TEARDOWN_STEP (R100): a sweep turn with a TEARDOWN job at the head. -/
  | teardownStep
  /-- CLEANUP_STEP (R106): a sweep turn with a CLEANUP job at the head. -/
  | cleanupStep
  /-- GRACE_TIMER_EXPIRY (R85) of `a`'s session. -/
  | graceTimerExpiry (a : AgentId)
  /-- LAPSE_TIMER_EXPIRY (R89) of `a`'s session. -/
  | lapseTimerExpiry (a : AgentId)
  /-- HOLD_TIMER_EXPIRY (R117) of `a`'s moderator. -/
  | holdTimerExpiry (a : AgentId)
  /-- RETRANSMIT_TIMER_EXPIRY (R123) of `a`'s moderator. -/
  | retransmitTimerExpiry (a : AgentId)
  /-- DEADLINE_FALLS_DUE (R69). -/
  | deadlineFallsDue
  /-- TRANSMIT_FRAME (R145): `a`'s transmitter begins a frame. -/
  | transmitFrame (a : AgentId)
  /-- ENABLE_DIRECTORY (R16): its code is written to CMD, below 24 bits that CMD ignores (R176). -/
  | enableDirectory (upper : BitVec 24)
  /-- LOAD_TOKEN_FLOOR (R26): its code is written to CMD. -/
  | loadTokenFloor (upper : BitVec 24)
  /-- EVICT_AGENT (R91): its code is written to CMD. -/
  | evictAgent (upper : BitVec 24)
  /-- BREAK_RECORD (R51): its management turn. -/
  | breakRecord
  /-- INSPECT_RECORD (R63): its management turn. -/
  | inspectRecord
  /-- CLEAR_QUARANTINE (R156): its management turn. -/
  | clearQuarantine
  /-- RESET_DIRECTORY (R18): its management turn. -/
  | resetDirectory
  /-- BAD_COMMAND (R166): a value whose code names no command is written to CMD. -/
  | badCommand (value : Word)
  /-- CONFIGURATION_WRITE (R163). -/
  | configurationWrite (r : ConfigReg) (value : Word)
  /-- FAULT_SUMMARY_WRITE (R157). -/
  | faultSummaryWrite (value : Word)
  /-- FAULT_ENABLE_WRITE (R158). -/
  | faultEnableWrite (value : Word)
  /-- STATISTIC_WRITE (R172). -/
  | statisticWrite (r : StatReg) (value : Word)
  /-- NTOK_LO (R162): a read of the low half of next token. -/
  | ntokLo
  /-- REGISTER_WRITE (R161): a write to a register without behaviour of its own. -/
  | registerWrite (address : BitVec 16) (value : Word)
  /-- ARBITER_COMMAND_ISSUE (R165): the code of `c` is written to CMD. -/
  | arbiterCommandIssue (c : ArbiterCommand) (upper : BitVec 24)
  /-- LOST_COMMAND_WRITE (R166): a value is written to CMD (while a command is BUSY). -/
  | lostCommandWrite (value : Word)
  /-- FRAME_END (R145): `a`'s transmitter reaches the end of its frame. -/
  | frameEnd (a : AgentId)
  /-- RESET_N_RETURNS_HIGH (R170). -/
  | resetNReturnsHigh
  deriving DecidableEq, Repr

end Sys2Proof
end

