-- ==== Sys2Proof/Decode.lean ====
section
/-! DEFINITION. The opcode table gives no row any bits: a command of the NL408 is an event, and no word spells one. The
forms in which commands come in from outside are in Machine/Frames.lean (frames) and Machine/Spi.lean (transactions). -/

namespace Sys2Proof

/-- The command that a word spells by the table's bits: none (log entry 7). -/
def decodeTableWord (_nbits _w : Nat) : Option Instr := none

end Sys2Proof
end

