-- ==== Sys2Proof/Config.lean ====
section
/-! DEFINITION. What the part fixes: its capacities (spec/00_scope.md Table 0-1) and the power-on defaults of the
configuration values (Table 10-2). The spec leaves no result open, so there is no free value here. -/

namespace Sys2Proof.Config

/-- Record slots (R1). -/
@[simp] def slotCount : Nat := 4096
/-- Membership entries (R10). -/
@[simp] def poolSize : Nat := 8192
/-- Highest namespace (R2). -/
@[simp] def maxNamespace : Nat := 15
/-- Waiters that one record's queue can hold (R5). -/
@[simp] def maxWaiters : Nat := 7
/-- Inbound request queue of a port (R141). -/
@[simp] def inboundSize : Nat := 16
/-- Outbound response list of a port (R143). -/
@[simp] def outboundSize : Nat := 16
/-- Replay cache of a port (R142). -/
@[simp] def replaySize : Nat := 16
/-- Notification queue of an agent, pending plus in flight (R112). -/
@[simp] def notificationSize : Nat := 64
/-- Notifications in one digest (R112, R118). -/
@[simp] def digestSize : Nat := 16
/-- CLEANUP jobs that may be pending at once (R98). -/
@[simp] def cleanupJobs : Nat := 8
/-- Memberships in one LISTED response (R60). -/
@[simp] def listedSize : Nat := 16
/-- Microseconds in a millisecond: the two timebases are derived from one clock (R66, R117; log entry 3). -/
@[simp] def microsPerMilli : Nat := 1000

/-- Power-on defaults (Table 10-2). -/
@[simp] def graceDefault : Word := 300
@[simp] def lapseDefault : Word := 1500
@[simp] def countThresholdDefault : Word := 4
@[simp] def holdTimeDefault : Word := 200
@[simp] def retransmitIntervalDefault : Word := 20
@[simp] def retransmitLimitDefault : Word := 3
@[simp] def membershipQuotaDefault : Word := 1024
@[simp] def waitQuotaDefault : Word := 64

end Sys2Proof.Config
end

