-- ==== Sys2Proof/Machine/Types.lean ====
section
/-! DEFINITION. The data the blocks of the NL408 exchange and hold: requests, responses, notifications, digests, and the
enumerations of R176. -/

namespace Sys2Proof.Machine

/-- EXCLUSIVE or SHARED (Table 0-5). -/
inductive Mode where
  | exclusive
  | shared
  deriving DecidableEq, Repr

/-- Role of a membership (Table 1-4). -/
inductive Role where
  | hold
  | wait
  deriving DecidableEq, Repr

/-- The eleven request kinds (Table 11-3). -/
inductive ReqKind where
  | openSession
  | resume
  | close
  | flush
  | acquire
  | release
  | downgrade
  | upgrade
  | cancel
  | lookup
  | list
  deriving DecidableEq, Repr

/-- What a well-formed request asks, by kind (Table 11-3, R173). -/
inductive RequestBody where
  | openSession
  | resume
  | close
  | flush
  /-- `tryNow`, `prompt` and `notice` are the option flags of ACQUIRE (2.3). -/
  | acquire (ns : Byte) (mode : Mode) (tryNow prompt notice : Bool) (deadline : BitVec 16) (key : Key)
  | release (handle : BitVec 16) (token : Token)
  | downgrade (handle : BitVec 16) (token : Token)
  | upgrade (handle : BitVec 16) (token : Token) (prompt : Bool) (deadline : BitVec 16)
  | cancel (handle : BitVec 16)
  | lookup (ns : Byte) (key : Key)
  | list (after : Stamp)
  deriving DecidableEq, Repr

/-- A request as it stands in an inbound queue (R141). -/
structure Request where
  tag : Tag
  epoch : Epoch
  body : RequestBody
  deriving DecidableEq, Repr

/-- A REQUEST frame that has passed the frame checks, its body not yet judged for form (R135, R140). -/
structure RawRequest where
  kind : Byte
  tag : Tag
  epoch : Epoch
  body : List Byte
  deriving DecidableEq, Repr

/-- What a frame that passes both frame checks is (R135, R136). -/
inductive Arrival where
  | keepalive (epoch : Epoch)
  | ack (number : Byte) (epoch : Epoch)
  | request (r : RawRequest)
  deriving DecidableEq, Repr

/-- The target of a request, compared by the replay check (R138). -/
inductive Target where
  | none
  | handle (h : BitVec 16)
  | name (ns : Byte) (key : Key)
  | stamp (after : Stamp)
  deriving DecidableEq, Repr

/-- Session states (R76). -/
inductive SessionState where
  | closed
  | active
  | suspect
  | retiring
  deriving DecidableEq, Repr

/-- Suspect causes, other than none (Table 5-1). -/
inductive SuspectCause where
  | quiet
  | linkLost
  | noAck
  deriving DecidableEq, Repr

/-- Retire causes, other than none (Table 5-1). -/
inductive RetireCause where
  | agentClose
  | lapsed
  | evicted
  deriving DecidableEq, Repr

/-- One entry of LISTED (Table 3-2). -/
structure ListedEntry where
  stamp : Stamp
  handle : Nat
  ns : Byte
  key : Key
  quarantined : Bool
  role : Role
  mode : Mode
  token : Token
  tag : Tag
  upgradePending : Bool
  deadline : Bool
  deriving DecidableEq, Repr

/-- A response's status with the fields it carries (Table 2-1, Table 11-6, Table 11-9). -/
inductive Result where
  | granted (handle : Nat) (mode : Mode) (token : Token)
  | queued (handle : Nat)
  | released (handle : Nat)
  | downgraded (handle : Nat) (token : Token)
  | cancelled (handle : Nat)
  | alreadyGranted (handle : Nat) (mode : Mode) (token : Token)
  | found (handle : Nat) (mode : Mode) (holders : List (AgentId × Token)) (waiters : List (AgentId × Mode))
      (upgrade : Option AgentId)
  | absent
  | listed (entries : List ListedEntry) (more : Bool)
  | opened (epoch : Epoch)
  | resumed (epoch : Epoch)
  | closed (epoch : Epoch)
  | flushed
  | contended (handle : Nat) (mode : Mode) (holders : Nat)
  | alreadyHeld (handle : Nat) (mode : Mode) (token : Token)
  | alreadyWaiting (handle : Nat)
  | notHeld (handle : Nat)
  | notWaiting (handle : Nat)
  | staleToken (handle : Nat)
  | wrongMode (handle : Nat)
  | upgradeConflict (handle : Nat)
  | membershipQuota
  | waitQuota
  | poolFull
  | directoryFull
  | sequenceExhausted
  | recordFault (handle : Nat)
  | badRequest
  | busy
  | noSession
  | staleSession
  | sessionExists (epoch : Epoch) (state : SessionState)
  | sessionSuspect
  | sessionLost
  | teardownInProgress
  | offline
  | halted
  deriving DecidableEq, Repr

/-- A response on an outbound list: the echoed fields and the result (R174). -/
structure Response where
  /-- the kind byte as received, even when it names no kind (R174) -/
  kind : Byte
  tag : Tag
  epoch : Epoch
  result : Result
  deriving DecidableEq, Repr

/-- How an operation answers the request it took: with the result of an executed request, which enters the replay
cache; with a refusal of the session and directory checks, which does not (R142); or not at all (R21). -/
inductive Reply where
  | none
  | executed (r : Result)
  | refused (r : Result)
  deriving DecidableEq, Repr

/-- A notification (Table 7-1). -/
inductive Notification where
  | granted (handle : Nat) (mode : Mode) (token : Token) (tag : Tag) (upgrade prompt : Bool)
  | waitExpired (handle : Nat) (tag : Tag) (upgrade : Bool)
  | contended (handle : Nat) (token : Token) (wanted : Mode)
  | revoked (handle : Nat) (token : Token)
  /-- a lost HOLD, with its token -/
  | lostHold (handle : Nat) (token : Token)
  /-- a lost WAIT, with its tag -/
  | lostWait (handle : Nat) (tag : Tag)
  deriving DecidableEq, Repr

/-- A digest (R118). -/
structure Digest where
  number : Byte
  epoch : Epoch
  retransmitted : Bool
  overflow : Bool
  entries : List Notification
  deriving DecidableEq, Repr

/-- Directory states (R14). -/
inductive DirectoryState where
  | offline
  | online
  | halted
  deriving DecidableEq, Repr

/-- Halt causes, other than none (R155). -/
inductive HaltCause where
  | membershipFault
  | cleanupBacklog
  deriving DecidableEq, Repr

/-- Moderator states (R115). -/
inductive ModeratorState where
  | empty
  | collecting
  | outstanding
  | stalled
  deriving DecidableEq, Repr

/-- The overflow mark (R114). -/
inductive OverflowMark where
  | clear
  | unreported
  | reported
  deriving DecidableEq, Repr

/-- Kind of a deadline entry (R65). -/
inductive DeadlineKind where
  | wait
  | upgrade
  deriving DecidableEq, Repr

/-- The eleven requesters of the Request Arbiter (R19). -/
inductive Requester where
  | agent (a : AgentId)
  | expiry
  | sweep
  | management
  deriving DecidableEq, Repr

/-- Jobs of the sweep queue (R96). -/
inductive SweepJob where
  | teardown (a : AgentId)
  | cleanup (handle : Nat)
  deriving DecidableEq, Repr

/-- The five fault flags (R157). -/
inductive FaultFlag where
  | quarantine
  | halt
  | sessionLapse
  | configReject
  | commandRefused
  deriving DecidableEq, Repr

/-- Outcome field of the command result (R165). -/
inductive CommandOutcome where
  | none
  | done
  | refused
  deriving DecidableEq, Repr

/-- Reasons for REFUSED (R176). -/
inductive Reason where
  | badCommand
  | notOffline
  | sequenceExhausted
  | belowFloor
  | badAgent
  | notOpen
  | alreadyRetiring
  | badHandle
  | halted
  | notLive
  | recordFault
  | membershipFault
  | notQuarantined
  | notCleaned
  deriving DecidableEq, Repr

end Sys2Proof.Machine
end

