-- ==== Sys2Proof/Machine/State.lean ====
section
/-! DEFINITION. The state of the NL408: everything Table 0-4 of spec/00_scope.md gives its blocks, and its values after
reset. -/

namespace Sys2Proof.Machine

/-- Indexed items, of which an unlisted index is free: record slots and membership entries. The canonical form
(indices strictly rising, all below the capacity) is `Table.wf`. -/
abbrev Table (α : Type) := List (Nat × α)

/-- A record (Table 1-3). `checkOk` says that the stored check code matches the content (log entry 4). -/
structure Record where
  ns : Byte
  key : Key
  mode : Mode
  /-- pool indices in grant order (R4) -/
  holders : List Nat
  /-- pool indices in admission order (R5) -/
  waiters : List Nat
  /-- pool index of the holder whose upgrade is pending (R6) -/
  upgrade : Option Nat
  checkOk : Bool
  deriving DecidableEq, Repr

/-- A slot that is not FREE (R1). A QUARANTINED slot keeps its stored name and references (R2, R9). -/
inductive Slot where
  | live (r : Record)
  | quarantined (cleaned : Bool) (r : Record)
  deriving DecidableEq, Repr

/-- A membership entry in use (Table 1-4). `token` is 0 for a WAIT, which has none. -/
structure Membership where
  agent : AgentId
  handle : Nat
  role : Role
  mode : Mode
  token : Token
  tag : Tag
  stamp : Stamp
  deadline : Option Time
  upgradePending : Bool
  notice : Bool
  noticed : Bool
  prompt : Bool
  checkOk : Bool
  deriving DecidableEq, Repr

/-- The four counts kept for each agent (R13). -/
structure Counts where
  holds : Nat
  waits : Nat
  upgrades : Nat
  nextStamp : Stamp
  deriving DecidableEq, Repr

/-- The Lease Directory and its Membership Pool (R15). -/
structure Directory where
  state : DirectoryState
  haltCause : Option HaltCause
  slots : Table Slot
  pool : Table Membership
  nextToken : Token
  counts : Per Counts
  deriving DecidableEq, Repr

/-- The Request Arbiter (R15, R19, R22). -/
structure Arbiter where
  lastServed : Requester
  operation : Option Requester
  deriving DecidableEq, Repr

/-- A deadline entry (R65). -/
structure Deadline where
  index : Nat
  agent : AgentId
  stamp : Stamp
  kind : DeadlineKind
  due : Time
  deriving DecidableEq, Repr

/-- The Deadline Unit (R65). -/
structure DeadlineUnit where
  list : List Deadline
  expiry : List Deadline
  deriving DecidableEq, Repr

/-- The two timebases (R66, R117); `phase` counts the microseconds since `ms` last advanced (log entry 3). -/
structure Clock where
  ms : Time
  us : Time
  phase : Nat
  deriving DecidableEq, Repr

/-- A session context (Table 5-1). A timer is stopped, or has a due time. -/
structure Session where
  state : SessionState
  epoch : Epoch
  suspectCause : Option SuspectCause
  retireCause : Option RetireCause
  graceDue : Option Time
  lapseDue : Option Time
  closeTag : Option Tag
  deriving DecidableEq, Repr

/-- A Notification Moderator (R112, R115). -/
structure Moderator where
  state : ModeratorState
  accepting : Bool
  epoch : Epoch
  number : Byte
  retransmitCount : Nat
  overflow : OverflowMark
  pending : List Notification
  inFlight : Option Digest
  holdDue : Option Time
  retransmitDue : Option Time
  deriving DecidableEq, Repr

/-- An entry of a replay cache (R142). -/
structure CacheEntry where
  tag : Tag
  kind : ReqKind
  target : Target
  result : Result
  deriving DecidableEq, Repr

/-- An Agent Port (R133 to R145). The cache is held oldest entry first. -/
structure Port where
  linkUp : Bool
  inbound : List Request
  outbound : List Response
  reserved : Bool
  inExecution : Option Tag
  replay : List CacheEntry
  digestPlace : Option Digest
  transmitting : Option (List Byte)
  deriving DecidableEq, Repr

/-- The configuration values (Table 10-2). -/
structure ConfigValues where
  grace : Word
  lapse : Word
  countThreshold : Word
  holdTime : Word
  retransmitInterval : Word
  retransmitLimit : Word
  membershipQuota : Per Word
  waitQuota : Per Word
  deriving DecidableEq, Repr

/-- A command that is BUSY, with the arguments copied at its issue (R165). -/
structure IssuedCommand where
  command : ArbiterCommand
  arg0 : Word
  arg1 : Word
  deriving DecidableEq, Repr

/-- The command result (R165). -/
structure CommandResult where
  code : Byte
  outcome : CommandOutcome
  reason : Option Reason
  value : Nat
  deriving DecidableEq, Repr

/-- Slot state as the inspection window shows it (R176). -/
inductive WindowSlot where
  | free
  | live
  | quarantined
  deriving DecidableEq, Repr

/-- A member entry of the inspection window (R64). `deadline` is the remaining time in milliseconds. -/
structure WindowMember where
  index : Nat
  agent : AgentId
  role : Role
  mode : Mode
  token : Token
  tag : Tag
  stamp : Stamp
  upgradePending : Bool
  notice : Bool
  noticed : Bool
  prompt : Bool
  deadline : Option Nat
  deriving DecidableEq, Repr

/-- The inspection window (R64, Table 11-10). A field that holds nothing reads 0. -/
structure Window where
  valid : Bool
  slot : WindowSlot
  cleaned : Bool
  handle : Nat
  ns : Byte
  key : Key
  mode : Option Mode
  holderCount : Nat
  waiterCount : Nat
  upgradeMember : Option Nat
  members : List WindowMember
  deriving DecidableEq, Repr

/-- The ten statistics of one agent (Table 10-5). -/
structure AgentStats where
  requestsTaken : Word
  grants : Word
  waitsAdmitted : Word
  waitExpiries : Word
  digestsSent : Word
  retransmissions : Word
  acksIgnored : Word
  framesDiscarded : Word
  replays : Word
  linkDowns : Word
  deriving DecidableEq, Repr

/-- The Management Port (R161 to R171). `busy` is the command state: none is IDLE. -/
structure Management where
  config : ConfigValues
  arg0 : Word
  arg1 : Word
  busy : Option IssuedCommand
  result : CommandResult
  window : Window
  holding : Token
  /-- bit positions of FLTSUM (Table 11-10) -/
  faults : BitVec 5
  /-- bit positions of FLTEN (Table 11-10) -/
  enables : BitVec 5
  stats : Per AgentStats
  quarantines : Word
  deriving DecidableEq, Repr

/-- The SPI port (R160). A transaction begins when MCS_N falls and ends when it rises; between transactions the port keeps
nothing. -/
inductive SpiPort where
  /-- MCS_N is high -/
  | released
  /-- a transaction is in progress, with the bits sampled on MSDI and the value that a read has captured -/
  | transaction (sampled : List Bool) (captured : Word)
  /-- RESET_N has fallen in a transaction, and MCS_N has stayed low since (R170; log entry 21) -/
  | abandoned
  deriving DecidableEq, Repr

/-- What the environment does to the stored records and memberships before one engine operation (log entry 4). -/
inductive Upset where
  | none
  | slot (handle : Nat)
  | entry (index : Nat)
  deriving DecidableEq, Repr

/-- The whole part, the commands that wait for it, and the environment's damage to its storage. -/
structure State where
  /-- level of the RESET_N pin -/
  resetN : Bool
  dir : Directory
  arbiter : Arbiter
  deadlines : DeadlineUnit
  clock : Clock
  sessions : Per Session
  /-- the sweep queue, head first (R96) -/
  sweep : List SweepJob
  moderators : Per Moderator
  ports : Per Port
  mgmt : Management
  spi : SpiPort
  /-- one for each engine operation to come; an empty list damages nothing -/
  upsets : List Upset
  /-- the commands that wait, first in first out -/
  pending : List Instr
  deriving DecidableEq, Repr

/-- No command of the NL408 stops the part: a check failure is a quarantine or a halt of the directory (R151, R153),
which are states. So no step faults, and this type has no constructor. -/
inductive Fault where
  deriving DecidableEq, Repr

/-- Why a command is refused. -/
inductive Refusal where
  /-- Raised by an arm of `exec` whose command has no meaning yet; no arm is so. Safe. -/
  | notModelled (mnemonic : String)
  deriving DecidableEq, Repr

/-- R13. -/
def Counts.reset : Counts := { holds := 0, waits := 0, upgrades := 0, nextStamp := 1 }

/-- R15. -/
def Directory.reset : Directory :=
  { state := .offline, haltCause := none, slots := [], pool := [], nextToken := 1,
    counts := Vector.replicate 8 Counts.reset }

/-- R15: agent 0's queue is the first considered. -/
def Arbiter.reset : Arbiter := { lastServed := .management, operation := none }

/-- R65. -/
def DeadlineUnit.reset : DeadlineUnit := { list := [], expiry := [] }

/-- R66, R117. -/
def Clock.reset : Clock := { ms := 0, us := 0, phase := 0 }

/-- R76. -/
def Session.reset : Session :=
  { state := .closed, epoch := 0, suspectCause := none, retireCause := none, graceDue := none, lapseDue := none,
    closeTag := none }

/-- R115. -/
def Moderator.reset : Moderator :=
  { state := .empty, accepting := false, epoch := 0, number := 0, retransmitCount := 0, overflow := .clear,
    pending := [], inFlight := none, holdDue := none, retransmitDue := none }

/-- R148. -/
def Port.reset : Port :=
  { linkUp := false, inbound := [], outbound := [], reserved := false, inExecution := none, replay := [],
    digestPlace := none, transmitting := none }

/-- Table 10-2. -/
def ConfigValues.reset : ConfigValues :=
  { grace := Config.graceDefault, lapse := Config.lapseDefault, countThreshold := Config.countThresholdDefault,
    holdTime := Config.holdTimeDefault, retransmitInterval := Config.retransmitIntervalDefault,
    retransmitLimit := Config.retransmitLimitDefault,
    membershipQuota := Vector.replicate 8 Config.membershipQuotaDefault,
    waitQuota := Vector.replicate 8 Config.waitQuotaDefault }

/-- R170. -/
def CommandResult.reset : CommandResult := { code := 0, outcome := .none, reason := none, value := 0 }

/-- R64: the valid indication is clear and every field reads 0. -/
def Window.cleared : Window :=
  { valid := false, slot := .free, cleaned := false, handle := 0, ns := 0, key := 0, mode := none, holderCount := 0,
    waiterCount := 0, upgradeMember := none, members := [] }

/-- R171. -/
def AgentStats.reset : AgentStats :=
  { requestsTaken := 0, grants := 0, waitsAdmitted := 0, waitExpiries := 0, digestsSent := 0, retransmissions := 0,
    acksIgnored := 0, framesDiscarded := 0, replays := 0, linkDowns := 0 }

/-- R170. -/
def Management.reset : Management :=
  { config := ConfigValues.reset, arg0 := 0, arg1 := 0, busy := none, result := CommandResult.reset,
    window := Window.cleared, holding := 0, faults := 0, enables := 0, stats := Vector.replicate 8 AgentStats.reset,
    quarantines := 0 }

/-- The machine as it leaves power-on reset, with RESET_N high (log entry 5). -/
def State.reset : State :=
  { resetN := true, dir := Directory.reset, arbiter := Arbiter.reset, deadlines := DeadlineUnit.reset,
    clock := Clock.reset, sessions := Vector.replicate 8 Session.reset, sweep := [],
    moderators := Vector.replicate 8 Moderator.reset, ports := Vector.replicate 8 Port.reset,
    mgmt := Management.reset, spi := .released, upsets := [], pending := [] }

end Sys2Proof.Machine
end

