-- ==== Sys2Proof/Machine/Tables.lean ====
section
/-! DEFINITION. Reading and writing the indexed stores (record slots, membership entries) and the per-agent items. -/

namespace Sys2Proof.Machine

variable {α : Type}

/-- What stands at an index; none is a free index. -/
def Table.get : Table α → Nat → Option α
  | [], _ => none
  | (k, x) :: t, i => if k = i then some x else Table.get t i

/-- Write an index, keeping the indices rising. -/
def Table.put : Table α → Nat → α → Table α
  | [], i, x => [(i, x)]
  | (k, y) :: t, i, x =>
    if i < k then (i, x) :: (k, y) :: t else if k = i then (i, x) :: t else (k, y) :: Table.put t i x

/-- Free an index. -/
def Table.free (t : Table α) (i : Nat) : Table α := t.filter (fun e => decide (e.1 ≠ i))

/-- The first free index at or after `i`, looking at `fuel` of them. -/
def Table.freeFrom (t : Table α) : Nat → Nat → Option Nat
  | 0, _ => none
  | fuel + 1, i => if (Table.get t i).isNone then some i else Table.freeFrom t fuel (i + 1)

/-- The lowest free index below `capacity` (R7, R11). -/
def Table.lowestFree (t : Table α) (capacity : Nat) : Option Nat := Table.freeFrom t capacity 0

/-- The canonical form: indices strictly rising and below the capacity. -/
def Table.wf (capacity : Nat) : Table α → Bool
  | [] => true
  | [(k, _)] => decide (k < capacity)
  | (k, _) :: (l, y) :: t => decide (k < l) && Table.wf capacity ((l, y) :: t)

/-- The item of one agent. -/
def Per.get (v : Per α) (a : AgentId) : α := Vector.get v a

/-- Write the item of one agent. -/
def Per.put (v : Per α) (a : AgentId) (x : α) : Per α := Vector.set v a.val x a.isLt

/-- The eight agents in order. -/
def allAgents : List AgentId := [0, 1, 2, 3, 4, 5, 6, 7]

end Sys2Proof.Machine
end

