-- ==== Sys2Proof/Machine/Frames.lean ====
section
/-! DEFINITION. Frames: the CRC, what a received frame says, and the bytes of the frames the part sends (R135, R138, R140,
R173 to R175, Chapter 11). -/

namespace Sys2Proof.Machine

/-! ### Bytes, most significant first -/

def be16 (b1 b0 : Byte) : BitVec 16 := b1 ++ b0
def be32 (b3 b2 b1 b0 : Byte) : BitVec 32 := b3 ++ b2 ++ b1 ++ b0
def be64 (b7 b6 b5 b4 b3 b2 b1 b0 : Byte) : BitVec 64 := b7 ++ b6 ++ b5 ++ b4 ++ b3 ++ b2 ++ b1 ++ b0

def bytes16 (w : BitVec 16) : List Byte := [w.extractLsb' 8 8, w.extractLsb' 0 8]
def bytes32 (w : BitVec 32) : List Byte :=
  [w.extractLsb' 24 8, w.extractLsb' 16 8, w.extractLsb' 8 8, w.extractLsb' 0 8]
def bytes64 (w : BitVec 64) : List Byte :=
  [w.extractLsb' 56 8, w.extractLsb' 48 8, w.extractLsb' 40 8, w.extractLsb' 32 8, w.extractLsb' 24 8,
    w.extractLsb' 16 8, w.extractLsb' 8 8, w.extractLsb' 0 8]

/-! ### The CRC (R135) -/

/-- One bit of the division by 0x1021, most significant bit first. -/
def crcBit (c : BitVec 16) : BitVec 16 := if c.msb then (c <<< 1) ^^^ 0x1021 else c <<< 1

/-- One byte of the CRC. -/
def crcByte (c : BitVec 16) (b : Byte) : BitVec 16 :=
  crcBit (crcBit (crcBit (crcBit (crcBit (crcBit (crcBit (crcBit (c ^^^ (b.setWidth 16 <<< 8)))))))))

/-- CRC over a frame's contents, with initial value 0xFFFF, no reflection and no final exclusive-or (R135). -/
def crc (contents : List Byte) : BitVec 16 := contents.foldl crcByte 0xFFFF

/-- A whole frame: its contents and their CRC, most significant byte first (R135). -/
def sealFrame (contents : List Byte) : List Byte := contents ++ bytes16 (crc contents)

/-! ### Received frames -/

/-- The contents of a frame whose CRC is right (R135, first check). -/
def frameContents (frame : List Byte) : Option (List Byte) :=
  let n := frame.length - 2
  if 2 ≤ frame.length ∧ frame.drop n = bytes16 (crc (frame.take n)) then some (frame.take n) else none

/-- Type and length (R135, second check), and the fields every frame of the type has (Table 11-2). -/
def readContents : List Byte → Option Arrival
  | [] => none
  | t :: rest =>
    if t = 0x01 then
      match rest with
      | k :: t1 :: t0 :: e1 :: e0 :: body =>
        some (.request { kind := k, tag := be16 t1 t0, epoch := be16 e1 e0, body := body })
      | _ => none
    else if t = 0x02 then
      match rest with
      | [n, e1, e0] => some (.ack n (be16 e1 e0))
      | _ => none
    else if t = 0x03 then
      match rest with
      | [_, e1, e0] => some (.keepalive (be16 e1 e0))
      | _ => none
    else none

/-- Both frame checks; none is a discarded frame (R135). -/
def readFrame (frame : List Byte) : Option Arrival :=
  match frameContents frame with
  | some c => readContents c
  | none => none

/-- Request kind codes (Table 11-3). -/
def ReqKind.code : ReqKind → Byte
  | .openSession => 0x01
  | .resume => 0x02
  | .close => 0x03
  | .flush => 0x04
  | .acquire => 0x10
  | .release => 0x11
  | .downgrade => 0x12
  | .upgrade => 0x13
  | .cancel => 0x14
  | .lookup => 0x20
  | .list => 0x21

/-- The kind a code names; none is an unknown kind (R140, R173). -/
def ReqKind.ofCode (c : Byte) : Option ReqKind :=
  if c = 0x01 then some .openSession
  else if c = 0x02 then some .resume
  else if c = 0x03 then some .close
  else if c = 0x04 then some .flush
  else if c = 0x10 then some .acquire
  else if c = 0x11 then some .release
  else if c = 0x12 then some .downgrade
  else if c = 0x13 then some .upgrade
  else if c = 0x14 then some .cancel
  else if c = 0x20 then some .lookup
  else if c = 0x21 then some .list
  else none

/-- The kind of a request's body. -/
def RequestBody.kind : RequestBody → ReqKind
  | .openSession => .openSession
  | .resume => .resume
  | .close => .close
  | .flush => .flush
  | .acquire .. => .acquire
  | .release .. => .release
  | .downgrade .. => .downgrade
  | .upgrade .. => .upgrade
  | .cancel .. => .cancel
  | .lookup .. => .lookup
  | .list .. => .list

/-- The target of a request (R138). -/
def RequestBody.target : RequestBody → Target
  | .openSession => .none
  | .resume => .none
  | .close => .none
  | .flush => .none
  | .acquire ns _ _ _ _ _ key => .name ns key
  | .release h _ => .handle h
  | .downgrade h _ => .handle h
  | .upgrade h _ _ _ => .handle h
  | .cancel h => .handle h
  | .lookup ns key => .name ns key
  | .list after => .stamp after

/-- Mode byte codes (R173, R176). -/
def Mode.code : Mode → Byte
  | .exclusive => 0x01
  | .shared => 0x02

/-- The mode a byte names (R173). -/
def Mode.ofCode (b : Byte) : Option Mode :=
  if b = 0x01 then some .exclusive else if b = 0x02 then some .shared else none

/-- The target that the bytes of a request body give, whether or not the request is well formed, so far as the bytes
that hold it have arrived (R138; log entry 10). -/
def rawTarget (k : ReqKind) (body : List Byte) : Option Target :=
  match k with
  | .openSession => some .none
  | .resume => some .none
  | .close => some .none
  | .flush => some .none
  | .acquire =>
    match body with
    | ns :: _ :: _ :: _ :: _ :: _ :: k7 :: k6 :: k5 :: k4 :: k3 :: k2 :: k1 :: k0 :: _ =>
      some (.name ns (be64 k7 k6 k5 k4 k3 k2 k1 k0))
    | _ => none
  | .lookup =>
    match body with
    | ns :: _ :: k7 :: k6 :: k5 :: k4 :: k3 :: k2 :: k1 :: k0 :: _ =>
      some (.name ns (be64 k7 k6 k5 k4 k3 k2 k1 k0))
    | _ => none
  | .list =>
    match body with
    | s3 :: s2 :: s1 :: s0 :: _ => some (.stamp (be32 s3 s2 s1 s0))
    | _ => none
  | .release | .downgrade | .upgrade | .cancel =>
    match body with
    | h1 :: h0 :: _ => some (.handle (be16 h1 h0))
    | _ => none

/-- Namespaces 0 to 15 are well formed (R140). -/
def nsOk (ns : Byte) : Bool := decide (ns.toNat ≤ Config.maxNamespace)

/-- Handles 0 to 4095 are well formed (R140). -/
def handleOk (h : BitVec 16) : Bool := decide (h.toNat < Config.slotCount)

/-- The body of a well-formed request; none is malformed (R140, R173, Table 11-3). -/
def readBody (k : ReqKind) (body : List Byte) : Option RequestBody :=
  match k, body with
  | .openSession, [] => some .openSession
  | .resume, [] => some .resume
  | .close, [] => some .close
  | .flush, [] => some .flush
  | .acquire, [ns, mode, opts, _, d1, d0, k7, k6, k5, k4, k3, k2, k1, k0] =>
    match Mode.ofCode mode with
    | some m =>
      if nsOk ns then
        some (.acquire ns m (opts.getLsbD 0) (opts.getLsbD 1) (opts.getLsbD 2) (be16 d1 d0)
          (be64 k7 k6 k5 k4 k3 k2 k1 k0))
      else none
    | none => none
  | .release, [h1, h0, t7, t6, t5, t4, t3, t2, t1, t0] =>
    if handleOk (be16 h1 h0) then some (.release (be16 h1 h0) (be64 t7 t6 t5 t4 t3 t2 t1 t0)) else none
  | .downgrade, [h1, h0, t7, t6, t5, t4, t3, t2, t1, t0] =>
    if handleOk (be16 h1 h0) then some (.downgrade (be16 h1 h0) (be64 t7 t6 t5 t4 t3 t2 t1 t0)) else none
  | .upgrade, [h1, h0, t7, t6, t5, t4, t3, t2, t1, t0, opts, _, d1, d0] =>
    if handleOk (be16 h1 h0) then
      some (.upgrade (be16 h1 h0) (be64 t7 t6 t5 t4 t3 t2 t1 t0) (opts.getLsbD 1) (be16 d1 d0))
    else none
  | .cancel, [h1, h0] => if handleOk (be16 h1 h0) then some (.cancel (be16 h1 h0)) else none
  | .lookup, [ns, _, k7, k6, k5, k4, k3, k2, k1, k0] =>
    if nsOk ns then some (.lookup ns (be64 k7 k6 k5 k4 k3 k2 k1 k0)) else none
  | .list, [s3, s2, s1, s0] => some (.list (be32 s3 s2 s1 s0))
  | _, _ => none

/-! ### Frames an agent sends, written from the same tables (used by tests and statements) -/

/-- A bit of an options byte. -/
def flagByte (bit : Nat) (b : Bool) : Byte := if b then 1#8 <<< bit else 0

/-- Table 11-3, with reserved bytes 0. -/
def RequestBody.bytes : RequestBody → List Byte
  | .openSession => []
  | .resume => []
  | .close => []
  | .flush => []
  | .acquire ns mode tryNow prompt notice deadline key =>
    [ns, mode.code, flagByte 0 tryNow ||| flagByte 1 prompt ||| flagByte 2 notice, 0] ++ bytes16 deadline ++
      bytes64 key
  | .release h t => bytes16 h ++ bytes64 t
  | .downgrade h t => bytes16 h ++ bytes64 t
  | .upgrade h t prompt deadline => bytes16 h ++ bytes64 t ++ [flagByte 1 prompt, 0] ++ bytes16 deadline
  | .cancel h => bytes16 h
  | .lookup ns key => [ns, 0] ++ bytes64 key
  | .list after => bytes32 after

/-- The REQUEST frame of a request (Table 11-2). -/
def Request.frame (r : Request) : List Byte :=
  sealFrame ([0x01, r.body.kind.code] ++ bytes16 r.tag ++ bytes16 r.epoch ++ r.body.bytes)

/-- An ACK frame (Table 11-2). -/
def ackFrame (number : Byte) (epoch : Epoch) : List Byte := sealFrame ([0x02, number] ++ bytes16 epoch)

/-- A KEEPALIVE frame with its reserved byte 0 (Table 11-2). -/
def keepaliveFrame (epoch : Epoch) : List Byte := sealFrame ([0x03, 0] ++ bytes16 epoch)

/-- The requests a frame can carry: those that are not malformed (R140). -/
def Request.wf (r : Request) : Bool :=
  match r.body with
  | .acquire ns .. => nsOk ns
  | .lookup ns _ => nsOk ns
  | .release h _ => handleOk h
  | .downgrade h _ => handleOk h
  | .upgrade h .. => handleOk h
  | .cancel h => handleOk h
  | .openSession | .resume | .close | .flush | .list _ => true

/-! ### Frames the part sends -/

/-- Status codes (Table 11-9). -/
def Result.code : Result → Byte
  | .granted .. => 0x01
  | .queued _ => 0x02
  | .released _ => 0x03
  | .downgraded .. => 0x04
  | .cancelled _ => 0x05
  | .alreadyGranted .. => 0x06
  | .found .. => 0x07
  | .absent => 0x08
  | .listed .. => 0x09
  | .opened _ => 0x0A
  | .resumed _ => 0x0B
  | .closed _ => 0x0C
  | .flushed => 0x0D
  | .contended .. => 0x20
  | .alreadyHeld .. => 0x21
  | .alreadyWaiting _ => 0x22
  | .notHeld _ => 0x23
  | .notWaiting _ => 0x24
  | .staleToken _ => 0x25
  | .wrongMode _ => 0x26
  | .upgradeConflict _ => 0x27
  | .membershipQuota => 0x28
  | .waitQuota => 0x29
  | .poolFull => 0x2A
  | .directoryFull => 0x2B
  | .sequenceExhausted => 0x2C
  | .recordFault _ => 0x2D
  | .badRequest => 0x2E
  | .busy => 0x2F
  | .noSession => 0x30
  | .staleSession => 0x31
  | .sessionExists .. => 0x32
  | .sessionSuspect => 0x33
  | .sessionLost => 0x34
  | .teardownInProgress => 0x35
  | .offline => 0x36
  | .halted => 0x37

/-- A handle on the link (R173, R174). -/
def handleBytes (h : Nat) : List Byte := bytes16 (BitVec.ofNat 16 h)

/-- An agent number on the link (Table 11-5). -/
def agentByte (a : AgentId) : Byte := BitVec.ofNat 8 a.val

/-- The state byte of SESSION_EXISTS: 1 for ACTIVE and 2 for SUSPECT (R174). -/
def SessionState.existsByte : SessionState → Byte
  | .suspect => 2
  | .active => 1
  | .closed => 0
  | .retiring => 0

/-- Bits of the flags byte of a LISTED entry (Table 11-5). -/
def ListedEntry.flags (e : ListedEntry) : Byte :=
  flagByte 0 (decide (e.role = .wait)) ||| flagByte 1 e.quarantined ||| flagByte 2 e.upgradePending |||
    flagByte 3 e.deadline

/-- A LISTED entry, 28 bytes (Table 11-5). -/
def ListedEntry.bytes (e : ListedEntry) : List Byte :=
  bytes32 e.stamp ++ handleBytes e.handle ++ [e.ns, e.flags, e.mode.code, 0] ++ bytes16 e.tag ++ bytes64 e.key ++
    bytes64 e.token

/-- handle; mode; reserved; token (Table 11-6). -/
def leaseBytes (h : Nat) (m : Mode) (t : Token) : List Byte := handleBytes h ++ [m.code, 0] ++ bytes64 t

/-- The body of a response (Table 11-6). -/
def Result.bytes : Result → List Byte
  | .granted h m t => leaseBytes h m t
  | .alreadyGranted h m t => leaseBytes h m t
  | .alreadyHeld h m t => leaseBytes h m t
  | .downgraded h t => leaseBytes h .shared t
  | .queued h => handleBytes h
  | .released h => handleBytes h
  | .cancelled h => handleBytes h
  | .alreadyWaiting h => handleBytes h
  | .notHeld h => handleBytes h
  | .notWaiting h => handleBytes h
  | .staleToken h => handleBytes h
  | .wrongMode h => handleBytes h
  | .upgradeConflict h => handleBytes h
  | .recordFault h => handleBytes h
  | .contended h m n => handleBytes h ++ [m.code, BitVec.ofNat 8 n]
  | .found h m holders waiters up =>
    handleBytes h ++
      [m.code, BitVec.ofNat 8 holders.length, BitVec.ofNat 8 waiters.length,
        match up with | some a => agentByte a | none => 0xFF] ++
      holders.flatMap (fun x => [agentByte x.1, 0] ++ bytes64 x.2) ++
      waiters.flatMap (fun x => [agentByte x.1, x.2.code])
  | .listed entries more =>
    [BitVec.ofNat 8 entries.length, if more then 1 else 0] ++ entries.flatMap ListedEntry.bytes
  | .opened e => bytes16 e
  | .resumed e => bytes16 e
  | .closed e => bytes16 e
  | .sessionExists e st => bytes16 e ++ [st.existsByte, 0]
  | .absent | .flushed | .membershipQuota | .waitQuota | .poolFull | .directoryFull | .sequenceExhausted
  | .badRequest | .busy | .noSession | .staleSession | .sessionSuspect | .sessionLost | .teardownInProgress
  | .offline | .halted => []

/-- A RESPONSE frame (Table 11-4, R174). -/
def Response.frame (r : Response) : List Byte :=
  sealFrame ([0x81, r.kind] ++ bytes16 r.tag ++ bytes16 r.epoch ++ [r.result.code] ++ r.result.bytes)

/-- One digest entry: kind; flags; handle; tag; mode; role; token (Table 11-8). -/
def entryBytes (kind flags : Byte) (h : Nat) (tag : Tag) (mode role : Byte) (token : Token) : List Byte :=
  [kind, flags] ++ handleBytes h ++ bytes16 tag ++ [mode, role] ++ bytes64 token

/-- A notification as a 16-byte entry (R175). -/
def Notification.bytes : Notification → List Byte
  | .granted h m t tag up prompt => entryBytes 0x01 (flagByte 0 up ||| flagByte 1 prompt) h tag m.code 0 t
  | .waitExpired h tag up => entryBytes 0x02 (flagByte 0 up) h tag 0 0 0
  | .contended h t wanted => entryBytes 0x03 0 h 0 wanted.code 0 t
  | .revoked h t => entryBytes 0x04 0 h 0 0 0 t
  | .lostHold h t => entryBytes 0x05 0 h 0 0 0x01 t
  | .lostWait h tag => entryBytes 0x05 0 h tag 0 0x02 0

/-- A DIGEST frame (Table 11-7, R175). -/
def Digest.frame (d : Digest) : List Byte :=
  sealFrame ([0x82, d.number] ++ bytes16 d.epoch ++
    [flagByte 0 d.retransmitted ||| flagByte 1 d.overflow, BitVec.ofNat 8 d.entries.length] ++
    d.entries.flatMap Notification.bytes)

end Sys2Proof.Machine
end

