-- ==== Sys2Proof/Machine/Flags.lean ====
section
/-! DEFINITION. The fault summary with its enables, ALERT_N, and the statistics. -/

namespace Sys2Proof.Machine

/-- Bit of a flag in FLTSUM and FLTEN (Table 11-10). -/
def FaultFlag.bit : FaultFlag → BitVec 5
  | .quarantine => 0b00001
  | .halt => 0b00010
  | .sessionLapse => 0b00100
  | .configReject => 0b01000
  | .commandRefused => 0b10000

/-- A flag is set by its event; a flag already 1 stays 1 (R157). -/
def State.raise (f : FaultFlag) (s : State) : State :=
  { s with mgmt := { s.mgmt with faults := s.mgmt.faults ||| f.bit } }

/-- ALERT_N is driven low while at least one flag is 1 and has its enable set, and released while RESET_N is low
(R158). -/
def State.alertLow (s : State) : Bool := s.resetN && decide (s.mgmt.faults &&& s.mgmt.enables ≠ 0)

/-- One counter of an agent's ten. -/
def AgentStats.get (t : AgentStats) : AgentStat → Word
  | .requestsTaken => t.requestsTaken
  | .grants => t.grants
  | .waitsAdmitted => t.waitsAdmitted
  | .waitExpiries => t.waitExpiries
  | .digestsSent => t.digestsSent
  | .retransmissions => t.retransmissions
  | .acksIgnored => t.acksIgnored
  | .framesDiscarded => t.framesDiscarded
  | .replays => t.replays
  | .linkDowns => t.linkDowns

/-- Write one counter of an agent's ten. -/
def AgentStats.put (t : AgentStats) (k : AgentStat) (w : Word) : AgentStats :=
  match k with
  | .requestsTaken => { t with requestsTaken := w }
  | .grants => { t with grants := w }
  | .waitsAdmitted => { t with waitsAdmitted := w }
  | .waitExpiries => { t with waitExpiries := w }
  | .digestsSent => { t with digestsSent := w }
  | .retransmissions => { t with retransmissions := w }
  | .acksIgnored => { t with acksIgnored := w }
  | .framesDiscarded => { t with framesDiscarded := w }
  | .replays => { t with replays := w }
  | .linkDowns => { t with linkDowns := w }

/-- The value of a statistic. -/
def Management.stat (m : Management) : StatReg → Word
  | .quarantines => m.quarantines
  | .agent a k => ((Per.get m.stats a).get k)

/-- Write a statistic. -/
def Management.putStat (m : Management) (r : StatReg) (w : Word) : Management :=
  match r with
  | .quarantines => { m with quarantines := w }
  | .agent a k => { m with stats := Per.put m.stats a ((Per.get m.stats a).put k w) }

/-- An event of a statistic: the counter rises by one and wraps (R171). -/
def State.count (r : StatReg) (s : State) : State :=
  { s with mgmt := s.mgmt.putStat r (s.mgmt.stat r + 1) }

end Sys2Proof.Machine
end

