-- ==== Sys2Proof/Machine/Ops.lean ====
section
/-! DEFINITION. The named reads and writes of the blocks' state, the timebases, and the Deadline Unit. -/

namespace Sys2Proof.Machine

/-! ### Reading and writing the blocks -/

def State.session (s : State) (a : AgentId) : Session := Per.get s.sessions a
def State.moderator (s : State) (a : AgentId) : Moderator := Per.get s.moderators a
def State.port (s : State) (a : AgentId) : Port := Per.get s.ports a
def State.counts (s : State) (a : AgentId) : Counts := Per.get s.dir.counts a

def State.putSession (a : AgentId) (x : Session) (s : State) : State :=
  { s with sessions := Per.put s.sessions a x }
def State.putModerator (a : AgentId) (x : Moderator) (s : State) : State :=
  { s with moderators := Per.put s.moderators a x }
def State.putPort (a : AgentId) (x : Port) (s : State) : State :=
  { s with ports := Per.put s.ports a x }
def State.putCounts (a : AgentId) (x : Counts) (s : State) : State :=
  { s with dir := { s.dir with counts := Per.put s.dir.counts a x } }

def State.putSpi (x : SpiPort) (s : State) : State := { s with spi := x }

/-- What stands in a record slot; none is FREE (R1). -/
def State.slot (s : State) (h : Nat) : Option Slot := Table.get s.dir.slots h

/-- The record of a LIVE slot. -/
def State.record (s : State) (h : Nat) : Option Record :=
  match s.slot h with
  | some (.live r) => some r
  | _ => none

/-- A slot is QUARANTINED, with either mark. -/
def State.isQuarantined (s : State) (h : Nat) : Bool :=
  match s.slot h with
  | some (.quarantined _ _) => true
  | _ => false

def State.putSlot (h : Nat) (x : Slot) (s : State) : State :=
  { s with dir := { s.dir with slots := Table.put s.dir.slots h x } }
def State.freeSlot (h : Nat) (s : State) : State :=
  { s with dir := { s.dir with slots := Table.free s.dir.slots h } }

/-- The engine writes a record: its check code is recomputed (R3, R12). -/
def State.putRecord (h : Nat) (r : Record) (s : State) : State :=
  s.putSlot h (.live { r with checkOk := true })

/-- A pool entry in use; none is a free entry (R10). -/
def State.member (s : State) (i : Nat) : Option Membership := Table.get s.dir.pool i

/-- The engine writes a membership: its check code is recomputed (R12). -/
def State.putMember (i : Nat) (m : Membership) (s : State) : State :=
  { s with dir := { s.dir with pool := Table.put s.dir.pool i { m with checkOk := true } } }
def State.freeMember (i : Nat) (s : State) : State :=
  { s with dir := { s.dir with pool := Table.free s.dir.pool i } }

/-- Change a LIVE record. -/
def State.editRecord (h : Nat) (f : Record → Record) (s : State) : State :=
  match s.record h with
  | some r => s.putRecord h (f r)
  | none => s

/-- Change a membership entry in use. -/
def State.editMember (i : Nat) (f : Membership → Membership) (s : State) : State :=
  match s.member i with
  | some m => s.putMember i (f m)
  | none => s

/-- Change an agent's counts. -/
def State.editCounts (a : AgentId) (f : Counts → Counts) (s : State) : State :=
  s.putCounts a (f (s.counts a))

/-! ### Counts and quotas (R13, R55, R56, R57) -/

/-- Holds plus waits, the length of the holdings list (R56). -/
def Counts.membershipUse (c : Counts) : Nat := c.holds + c.waits

/-- Waits plus upgrades (R56). -/
def Counts.waitUse (c : Counts) : Nat := c.waits + c.upgrades

/-- The first check of every admission: membership use at its quota, or next stamp 0 (R32, R34, R36, R55). -/
def State.membershipQuotaReached (s : State) (a : AgentId) : Bool :=
  decide ((Per.get s.mgmt.config.membershipQuota a).toNat ≤ (s.counts a).membershipUse) ||
    decide ((s.counts a).nextStamp = 0)

/-- Wait use at the wait quota (R36, R41). -/
def State.waitQuotaReached (s : State) (a : AgentId) : Bool :=
  decide ((Per.get s.mgmt.config.waitQuota a).toNat ≤ (s.counts a).waitUse)

/-- The grant sequence is exhausted (R25). -/
def State.exhausted (s : State) : Bool := decide (s.dir.nextToken = 0)

/-- A grant takes next token and raises it by one (R24). -/
def State.advanceToken (s : State) : State :=
  { s with dir := { s.dir with nextToken := s.dir.nextToken + 1 } }

/-! ### Timebases (R66, R94, R117, R123) -/

/-- A timer or deadline of `d` started at `now` is due at now + d + 1, modulo 2^32. -/
def dueAfter (now : Time) (d : BitVec 32) : Time := now + d + 1

/-- The timebase has reached a due time. Due times lie at most 65536 ahead (R66, R117), so one that the timebase has
passed lies less than half the range behind it (log entry 15). -/
def reached (now due : Time) : Bool := decide ((now - due).toNat < 2147483648)

/-- A running timer whose due time the timebase has reached; a stopped timer never expires. -/
def timerReached (now : Time) : Option Time → Bool
  | some due => reached now due
  | none => false

/-- Time remaining until a due time, by which due times are compared (R66). -/
def remaining (now due : Time) : Nat := (due - now).toNat

/-- One microsecond passes: the microsecond timebase advances, and the millisecond timebase with every thousandth
(log entry 3). -/
def Clock.tick (c : Clock) : Clock :=
  if Config.microsPerMilli ≤ c.phase + 1 then { ms := c.ms + 1, us := c.us + 1, phase := 0 }
  else { c with us := c.us + 1, phase := c.phase + 1 }

/-! ### The Deadline Unit (R65 to R68, R74) -/

/-- Place an entry on the deadline list by its due time, behind entries with the same due time (R65). -/
def insertDeadline (now : Time) (e : Deadline) : List Deadline → List Deadline
  | [] => [e]
  | x :: t => if remaining now x.due ≤ remaining now e.due then x :: insertDeadline now e t else e :: x :: t

/-- Remove any entry for a pool index, wherever it stands (R67). -/
def State.removeDeadline (i : Nat) (s : State) : State :=
  { s with deadlines :=
      { list := s.deadlines.list.filter (fun e => decide (e.index ≠ i)),
        expiry := s.deadlines.expiry.filter (fun e => decide (e.index ≠ i)) } }

/-- Register the deadline of `ms` milliseconds of membership `i` (R66, R67). A duration of 0 registers nothing. -/
def State.registerDeadline (i : Nat) (kind : DeadlineKind) (ms : BitVec 16) (s : State) : State :=
  if ms = 0 then s
  else
    match s.member i with
    | none => s
    | some m =>
      let due := dueAfter s.clock.ms (ms.setWidth 32)
      let s := s.removeDeadline i
      let e : Deadline := { index := i, agent := m.agent, stamp := m.stamp, kind := kind, due := due }
      let s := { s with deadlines :=
                  { s.deadlines with list := insertDeadline s.clock.ms e s.deadlines.list } }
      s.putMember i { m with deadline := some due }

/-- Withdraw a membership's deadline, if its deadline field is set: the field is cleared, and an entry still on the
deadline list is removed; one on the expiry queue is left there (R68). -/
def State.withdrawDeadline (i : Nat) (s : State) : State :=
  match s.member i with
  | none => s
  | some m =>
    if m.deadline.isSome then
      let s := s.putMember i { m with deadline := none }
      { s with deadlines :=
          { s.deadlines with list := s.deadlines.list.filter (fun e => decide (e.index ≠ i)) } }
    else s

/-- Teardown completion removes every entry naming the agent (R74). -/
def State.removeAgentDeadlines (a : AgentId) (s : State) : State :=
  { s with deadlines :=
      { list := s.deadlines.list.filter (fun e => decide (e.agent ≠ a)),
        expiry := s.deadlines.expiry.filter (fun e => decide (e.agent ≠ a)) } }

/-! ### The sweep queue (R96 to R98) -/

/-- A job joins the tail. -/
def State.placeJob (j : SweepJob) (s : State) : State := { s with sweep := s.sweep ++ [j] }

/-- The head job leaves the queue at its completion (R96). -/
def State.dropJob (s : State) : State := { s with sweep := s.sweep.tail }

/-- CLEANUP jobs on the sweep queue (R96, R98). -/
def State.cleanupCount (s : State) : Nat :=
  s.sweep.countP (fun j => match j with | .cleanup _ => true | .teardown _ => false)

/-- TEARDOWN jobs on the sweep queue (R96). -/
def State.teardownCount (s : State) : Nat :=
  s.sweep.countP (fun j => match j with | .teardown _ => true | .cleanup _ => false)

end Sys2Proof.Machine
end

