-- ==== Sys2Proof/Machine/Registers.lean ====
section
/-! DEFINITION. The register window: the register map and what every address reads (R161, R162, R171, R176,
Tables 11-10 to 11-12). -/

namespace Sys2Proof.Machine

/-! ### The map -/

/-- The block of an agent's registers in which an address lies, and the offset in it (Table 11-11). -/
def agentBlock (address : BitVec 16) : Option (AgentId × Nat) :=
  let n := address.toNat / 256
  if h : 2 ≤ n ∧ n < 10 then some (⟨n - 2, by omega⟩, address.toNat % 256) else none

/-- Offset of a statistic in an agent's block (Table 11-11). -/
def statOffset : AgentStat → Nat
  | .requestsTaken => 0x40
  | .grants => 0x44
  | .waitsAdmitted => 0x48
  | .waitExpiries => 0x4C
  | .digestsSent => 0x50
  | .retransmissions => 0x54
  | .acksIgnored => 0x58
  | .framesDiscarded => 0x5C
  | .replays => 0x60
  | .linkDowns => 0x64

/-- The ten statistics of an agent in register order (Table 11-11). -/
def allAgentStats : List AgentStat :=
  [.requestsTaken, .grants, .waitsAdmitted, .waitExpiries, .digestsSent, .retransmissions, .acksIgnored,
    .framesDiscarded, .replays, .linkDowns]

/-- The address of an offset in an agent's block. -/
def agentAddress (a : AgentId) (offset : Nat) : BitVec 16 := BitVec.ofNat 16 (0x0200 + 0x0100 * a.val + offset)

/-- The address of a configuration register. -/
def configAddress : ConfigReg → BitVec 16
  | .grace => 0x0040
  | .lapse => 0x0044
  | .countThreshold => 0x0048
  | .holdTime => 0x004C
  | .retransmitInterval => 0x0050
  | .retransmitLimit => 0x0054
  | .membershipQuota a => agentAddress a 0x20
  | .waitQuota a => agentAddress a 0x24

/-- The address of a statistic. -/
def statAddress : StatReg → BitVec 16
  | .quarantines => 0x0038
  | .agent a k => agentAddress a (statOffset k)

/-- The configuration register at an address. -/
def configAt (address : BitVec 16) : Option ConfigReg :=
  match agentBlock address with
  | some (a, 0x20) => some (.membershipQuota a)
  | some (a, 0x24) => some (.waitQuota a)
  | _ =>
    if address = 0x0040 then some .grace
    else if address = 0x0044 then some .lapse
    else if address = 0x0048 then some .countThreshold
    else if address = 0x004C then some .holdTime
    else if address = 0x0050 then some .retransmitInterval
    else if address = 0x0054 then some .retransmitLimit
    else none

/-- The statistic at an address. -/
def statAt (address : BitVec 16) : Option StatReg :=
  if address = 0x0038 then some .quarantines
  else
    match agentBlock address with
    | some (a, o) => (allAgentStats.find? (fun k => decide (statOffset k = o))).map (StatReg.agent a)
    | none => none

def ntokLoAddress : BitVec 16 := 0x0014
def faultSummaryAddress : BitVec 16 := 0x0030
def faultEnableAddress : BitVec 16 := 0x0034
def arg0Address : BitVec 16 := 0x0060
def arg1Address : BitVec 16 := 0x0064
def commandAddress : BitVec 16 := 0x0068

/-- The addresses that a write reaches with an effect of a command of its own; a write to any other address is a
REGISTER_WRITE (R161). -/
def hasOwnWrite (address : BitVec 16) : Bool :=
  (configAt address).isSome || (statAt address).isSome || decide (address = faultSummaryAddress) ||
    decide (address = faultEnableAddress) || decide (address = commandAddress)

/-! ### Codes (R176) -/

def DirectoryState.field : DirectoryState → Nat
  | .offline => 0
  | .online => 1
  | .halted => 2

def HaltCause.field : Option HaltCause → Nat
  | none => 0
  | some .membershipFault => 1
  | some .cleanupBacklog => 2

def SessionState.field : SessionState → Nat
  | .closed => 0
  | .active => 1
  | .suspect => 2
  | .retiring => 3

def SuspectCause.field : Option SuspectCause → Nat
  | none => 0
  | some .quiet => 1
  | some .linkLost => 2
  | some .noAck => 3

def RetireCause.field : Option RetireCause → Nat
  | none => 0
  | some .agentClose => 1
  | some .lapsed => 2
  | some .evicted => 3

def ModeratorState.field : ModeratorState → Nat
  | .empty => 0
  | .collecting => 1
  | .outstanding => 2
  | .stalled => 3

def OverflowMark.field : OverflowMark → Nat
  | .clear => 0
  | .unreported => 1
  | .reported => 2

def WindowSlot.field : WindowSlot → Nat
  | .free => 0
  | .live => 1
  | .quarantined => 2

/-- An absent mode reads 0. -/
def Mode.field : Option Mode → Nat
  | none => 0
  | some .exclusive => 1
  | some .shared => 2

def Role.field : Role → Nat
  | .hold => 0
  | .wait => 1

def CommandOutcome.field : CommandOutcome → Nat
  | .none => 0
  | .done => 1
  | .refused => 2

def Reason.field : Option Reason → Nat
  | none => 0
  | some .badCommand => 1
  | some .notOffline => 2
  | some .sequenceExhausted => 3
  | some .belowFloor => 4
  | some .badAgent => 5
  | some .notOpen => 6
  | some .alreadyRetiring => 7
  | some .badHandle => 8
  | some .halted => 9
  | some .notLive => 10
  | some .recordFault => 11
  | some .membershipFault => 12
  | some .notQuarantined => 13
  | some .notCleaned => 14

/-! ### Fields of a register -/

/-- A value in `width` bits of a register, its least significant bit at `lo`. -/
def field (width lo value : Nat) : Word := (BitVec.ofNat width value).setWidth 32 <<< lo

/-- A one-bit field. -/
def bitField (lo : Nat) (b : Bool) : Word := field 1 lo b.toNat

/-- The low and the high half of a 64-bit value. -/
def low32 (x : BitVec 64) : Word := x.extractLsb' 0 32
def high32 (x : BitVec 64) : Word := x.extractLsb' 32 32

/-! ### What the registers read -/

/-- The current value of a configuration register. -/
def ConfigValues.get (c : ConfigValues) : ConfigReg → Word
  | .grace => c.grace
  | .lapse => c.lapse
  | .countThreshold => c.countThreshold
  | .holdTime => c.holdTime
  | .retransmitInterval => c.retransmitInterval
  | .retransmitLimit => c.retransmitLimit
  | .membershipQuota a => Per.get c.membershipQuota a
  | .waitQuota a => Per.get c.waitQuota a

/-- DIRSTAT (R14, R17). -/
def State.readDirstat (s : State) : Word :=
  field 2 0 s.dir.state.field ||| field 2 8 (HaltCause.field s.dir.haltCause)

/-- DLCOUNT (R65). -/
def State.readDlcount (s : State) : Word :=
  field 14 0 s.deadlines.list.length ||| field 14 16 s.deadlines.expiry.length

/-- Kind and subject of the head job (R96, R176). -/
def sweepHead : List SweepJob → Word
  | [] => 0
  | .teardown a :: _ => field 2 8 1 ||| field 12 16 a.val
  | .cleanup h :: _ => field 2 8 2 ||| field 12 16 h

/-- SWPSTAT (R96). -/
def State.readSwpstat (s : State) : Word :=
  field 4 0 s.teardownCount ||| field 4 4 s.cleanupCount ||| sweepHead s.sweep

/-- CMDRES (R165). -/
def Management.readCmdres (m : Management) : Word :=
  field 8 0 m.result.code.toNat ||| bitField 8 m.busy.isSome ||| field 2 12 m.result.outcome.field |||
    field 4 16 (Reason.field m.result.reason) ||| field 4 24 m.result.value

/-- IWSTAT (R64). -/
def Window.readStatus (w : Window) : Word :=
  bitField 0 w.valid ||| field 2 1 w.slot.field ||| bitField 3 w.cleaned ||| field 12 16 w.handle

/-- IWREC (R64). -/
def Window.readRecord (w : Window) : Word :=
  field 4 0 w.ns.toNat ||| field 2 4 (Mode.field w.mode) ||| field 4 8 w.holderCount ||| field 4 12 w.waiterCount |||
    bitField 16 w.upgradeMember.isSome ||| field 3 20 (w.upgradeMember.getD 0)

/-- One word of a member entry (Table 11-12). -/
def WindowMember.readWord (m : WindowMember) (offset : Nat) : Word :=
  if offset = 0x00 then
    field 13 0 m.index ||| field 3 16 m.agent.val ||| bitField 20 (decide (m.role = .wait)) |||
      field 2 22 (Mode.field (some m.mode)) ||| bitField 24 m.upgradePending ||| bitField 25 m.notice |||
      bitField 26 m.noticed ||| bitField 27 m.prompt ||| bitField 28 m.deadline.isSome
  else if offset = 0x04 then field 16 0 m.tag.toNat ||| field 16 16 (m.deadline.getD 0)
  else if offset = 0x08 then m.stamp
  else if offset = 0x0C then low32 m.token
  else if offset = 0x10 then high32 m.token
  else 0

/-- A word of the eight member entries, at 0x00A0 + 0x20 × m; entries beyond the last read 0 (R176). -/
def Window.readMember (w : Window) (address : Nat) : Word :=
  match w.members[(address - 0xA0) / 0x20]? with
  | some m => if (address - 0xA0) / 0x20 < 8 then m.readWord ((address - 0xA0) % 0x20) else 0
  | none => 0

/-- SESS (R76). -/
def Session.read (c : Session) : Word :=
  field 2 0 c.state.field ||| field 2 4 (SuspectCause.field c.suspectCause) |||
    field 2 8 (RetireCause.field c.retireCause) ||| field 16 16 c.epoch.toNat

/-- MODST (R132). -/
def Moderator.readStatus (m : Moderator) : Word :=
  field 2 0 m.state.field ||| bitField 2 m.accepting ||| field 2 4 m.overflow.field |||
    field 3 8 m.retransmitCount ||| field 8 16 m.number.toNat

/-- Entries of the digest in flight (R112). -/
def Moderator.inFlightCount (m : Moderator) : Nat :=
  match m.inFlight with
  | some d => d.entries.length
  | none => 0

/-- MODCNT (R132). -/
def Moderator.readCounts (m : Moderator) : Word := field 7 0 m.pending.length ||| field 5 16 m.inFlightCount

/-- Places of the outbound list that are taken, a reserved one included (R143). -/
def Port.outboundCount (p : Port) : Nat := p.outbound.length + (if p.reserved then 1 else 0)

/-- PORTST (R133, R141, R143). -/
def Port.read (p : Port) : Word :=
  bitField 0 p.linkUp ||| field 5 8 p.inbound.length ||| field 5 16 p.outboundCount

/-- The status registers of an agent's block; an offset that holds no status register reads 0 here. -/
def State.readAgentStatus (s : State) (a : AgentId) (offset : Nat) : Word :=
  if offset = 0x00 then (s.session a).read
  else if offset = 0x04 then field 14 0 (s.counts a).holds ||| field 14 16 (s.counts a).waits
  else if offset = 0x08 then field 14 0 (s.counts a).upgrades
  else if offset = 0x0C then (s.counts a).nextStamp
  else if offset = 0x10 then (s.moderator a).readStatus
  else if offset = 0x14 then (s.moderator a).readCounts
  else if offset = 0x18 then (s.port a).read
  else 0

/-- The device registers that are neither configuration nor statistic (Table 11-10); any other address reads 0. -/
def State.readDevice (s : State) (address : BitVec 16) : Word :=
  if address = 0x0010 then s.readDirstat
  else if address = ntokLoAddress then low32 s.dir.nextToken
  else if address = 0x0018 then high32 s.mgmt.holding
  else if address = 0x0020 then s.readDlcount
  else if address = 0x0024 then s.readSwpstat
  else if address = faultSummaryAddress then s.mgmt.faults.setWidth 32
  else if address = faultEnableAddress then s.mgmt.enables.setWidth 32
  else if address = arg0Address then s.mgmt.arg0
  else if address = arg1Address then s.mgmt.arg1
  else if address = commandAddress then 0
  else if address = 0x006C then s.mgmt.readCmdres
  else if address = 0x0080 then s.mgmt.window.readStatus
  else if address = 0x0084 then s.mgmt.window.readRecord
  else if address = 0x0088 then low32 s.mgmt.window.key
  else if address = 0x008C then high32 s.mgmt.window.key
  else if 0xA0 ≤ address.toNat then s.mgmt.window.readMember address.toNat
  else 0

/-- What a read of an address returns (R161, R162, R171). -/
def State.readRegister (s : State) (address : BitVec 16) : Word :=
  match configAt address with
  | some r => s.mgmt.config.get r
  | none =>
    match statAt address with
    | some r => s.mgmt.stat r
    | none =>
      match agentBlock address with
      | some (a, offset) => s.readAgentStatus a offset
      | none => s.readDevice address

end Sys2Proof.Machine
end

