-- ==== Sys2Proof/Machine/Moderators.lean ====
section
/-! DEFINITION. The Notification Moderator: notification arrival, emission, acknowledgement, resending, and the Session
Controller's instructions (Chapter 7). -/

namespace Sys2Proof.Machine

/-- A GRANTED notification with its prompt flag set (R111). -/
def Notification.isPrompt : Notification → Bool
  | .granted _ _ _ _ _ prompt => prompt
  | _ => false

/-- Occupied places of the notification queue (R112). -/
def Moderator.occupied (m : Moderator) : Nat := m.pending.length + m.inFlightCount

/-- The moderator hands its port a digest: placed, replacing a waiting one, or discarded while the link is DOWN
(R144). -/
def State.handDigest (a : AgentId) (d : Digest) (s : State) : State :=
  if (s.port a).linkUp then s.putPort a { s.port a with digestPlace := some d } else s

/-- The digest an emission makes of the oldest pending entries (R118). -/
def Moderator.digest (m : Moderator) : Digest :=
  { number := m.number, epoch := m.epoch, retransmitted := false, overflow := decide (m.overflow = .unreported),
    entries := m.pending.take Config.digestSize }

/-- Emit a digest (R118). -/
def State.emit (a : AgentId) (s : State) : State :=
  let m := s.moderator a
  let s := s.putModerator a
    { m with
      pending := m.pending.drop Config.digestSize
      inFlight := some m.digest
      overflow := if m.overflow = .unreported then .reported else m.overflow
      state := .outstanding
      holdDue := none
      retransmitCount := 0
      retransmitDue := some (dueAfter s.clock.ms s.mgmt.config.retransmitInterval) }
  (s.count (.agent a .digestsSent)).handDigest a m.digest

/-- The emission condition (R116). -/
def emissionCondition (c : ConfigValues) (m : Moderator) : Bool :=
  (decide (c.countThreshold ≠ 0) && decide (c.countThreshold.toNat ≤ m.pending.length)) ||
    m.pending.any Notification.isPrompt ||
    decide (m.overflow = .unreported) ||
    (decide (c.countThreshold = 0) && decide (c.holdTime = 0))

/-- A check of the emission condition (R116). -/
def State.checkEmission (a : AgentId) (s : State) : State :=
  if emissionCondition s.mgmt.config (s.moderator a) then s.emit a else s

/-- Entry into COLLECTING: the hold timer is started, unless the hold time is 0, and the emission condition is checked
(R116, R117). -/
def State.enterCollecting (a : AgentId) (s : State) : State :=
  let s := s.putModerator a
    { s.moderator a with
      state := .collecting
      holdDue :=
        if s.mgmt.config.holdTime = 0 then none else some (dueAfter s.clock.us s.mgmt.config.holdTime) }
  s.checkEmission a

/-- A notification arrives at `a`'s moderator (R113, R114). -/
def State.notify (a : AgentId) (n : Notification) (s : State) : State :=
  let m := s.moderator a
  if m.accepting then
    if m.occupied < Config.notificationSize then
      let s := s.putModerator a { m with pending := m.pending ++ [n] }
      match m.state with
      | .empty => s.enterCollecting a
      | .collecting => s.checkEmission a
      | .outstanding => s
      | .stalled => s
    else
      let s := s.putModerator a { m with overflow := .unreported }
      match m.state with
      | .collecting => s.checkEmission a
      | .empty => s
      | .outstanding => s
      | .stalled => s
  else s

/-- FLUSH reaches the moderator (R119). -/
def State.flushModerator (a : AgentId) (s : State) : State :=
  match (s.moderator a).state with
  | .collecting => s.emit a
  | .empty => s
  | .outstanding => s
  | .stalled => s

/-- An accepted ACK retires the digest in flight (R122). -/
def State.acceptAck (a : AgentId) (d : Digest) (s : State) : State :=
  let m := s.moderator a
  let m' : Moderator :=
    { m with
      inFlight := none
      overflow := if d.overflow ∧ m.overflow = .reported then .clear else m.overflow
      number := m.number + 1
      retransmitDue := none
      retransmitCount := 0 }
  match m.state with
  | .outstanding =>
    if m.pending.isEmpty then s.putModerator a { m' with state := .empty }
    else (s.putModerator a m').enterCollecting a
  | .stalled => s.putModerator a m'
  | .empty => s.putModerator a m'
  | .collecting => s.putModerator a m'

/-- An ACK reaches the moderator and is judged (R121). -/
def State.judgeAck (a : AgentId) (number : Byte) (epoch : Epoch) (s : State) : State :=
  let m := s.moderator a
  if m.accepting then
    if epoch ≠ m.epoch then s.count (.agent a .acksIgnored)
    else if number = m.number - 1 then s
    else
      match m.inFlight with
      | some d => if number = d.number then s.acceptAck a d else s.count (.agent a .acksIgnored)
      | none => s.count (.agent a .acksIgnored)
  else s

/-- Resend the digest in flight: a copy with the retransmitted flag set goes to the port, the timer is started again
and the resend is counted (R123, R127). -/
def State.resend (a : AgentId) (d : Digest) (retransmitCount : Nat) (s : State) : State :=
  let s := s.putModerator a
    { s.moderator a with
      state := .outstanding
      retransmitCount := retransmitCount
      retransmitDue := some (dueAfter s.clock.ms s.mgmt.config.retransmitInterval) }
  (s.count (.agent a .retransmissions)).handDigest a { d with retransmitted := true }

/-- The Session Controller's OPEN instruction (R125). -/
def State.openModerator (a : AgentId) (epoch : Epoch) (s : State) : State :=
  s.putModerator a
    { s.moderator a with
      state := .empty
      accepting := true
      epoch := epoch
      number := 0
      retransmitCount := 0
      overflow := .clear
      holdDue := none
      retransmitDue := none }

/-- The stall instruction (R126). -/
def State.stallModerator (a : AgentId) (s : State) : State :=
  s.putModerator a { s.moderator a with state := .stalled, holdDue := none, retransmitDue := none }

/-- The resume instruction: the moderator leaves STALLED (R127). -/
def State.resumeModerator (a : AgentId) (s : State) : State :=
  match (s.moderator a).inFlight with
  | some d => s.resend a d 0
  | none =>
    if (s.moderator a).pending.isEmpty then
      s.putModerator a { s.moderator a with state := .empty, retransmitCount := 0 }
    else (s.putModerator a { s.moderator a with retransmitCount := 0 }).enterCollecting a

/-- The retire instruction: everything is discarded, and a digest waiting at the port is withdrawn (R128, R144). -/
def State.retireModerator (a : AgentId) (s : State) : State :=
  let s := s.putModerator a
    { s.moderator a with
      pending := []
      inFlight := none
      overflow := .clear
      holdDue := none
      retransmitDue := none
      retransmitCount := 0
      state := .empty
      accepting := false }
  s.putPort a { s.port a with digestPlace := none }

end Sys2Proof.Machine
end

