-- ==== Sys2Proof/Machine/Records.lean ====
section
/-! DEFINITION. What the operations share on records and memberships: the key match, holdings lists, allocation, removal,
contention notices, verification with its two failures (Chapters 1, 2, 3 and 9). -/

namespace Sys2Proof.Machine

/-! ### Finding -/

/-- The key match: the LIVE slot with this name (R2). -/
def State.findName (s : State) (ns : Byte) (key : Key) : Option (Nat × Record) :=
  s.dir.slots.findSome? (fun e =>
    match e.2 with
    | .live r => if r.ns = ns ∧ r.key = key then some (e.1, r) else none
    | .quarantined _ _ => none)

/-- Insert a pool entry by its stamp, behind those with lower or equal stamps. -/
def insertByStamp (e : Nat × Membership) : List (Nat × Membership) → List (Nat × Membership)
  | [] => [e]
  | x :: t => if x.2.stamp ≤ e.2.stamp then x :: insertByStamp e t else e :: x :: t

/-- An agent's holdings list, lowest stamp first (R54). -/
def State.holdings (s : State) (a : AgentId) : List (Nat × Membership) :=
  (s.dir.pool.filter (fun e => decide (e.2.agent = a))).foldr insertByStamp []

/-- The pool index of `a`'s membership among the references given. -/
def State.memberOf (s : State) (a : AgentId) (refs : List Nat) : Option (Nat × Membership) :=
  refs.findSome? (fun i =>
    match s.member i with
    | some m => if m.agent = a then some (i, m) else none
    | none => none)

/-! ### Verification (R12, R150) -/

/-- Outcome of the verified reads of an operation. -/
inductive Verdict where
  | sound
  | recordFault
  | memberFault
  deriving DecidableEq, Repr

/-- A membership read verifies its check code; a free entry carries none (R12). -/
def State.memberSound (s : State) (i : Nat) : Bool :=
  match s.member i with
  | some m => m.checkOk
  | none => true

/-- Read a record, then its holders in grant order, then its waiters in admission order, up to the first failure
(R150). -/
def State.verify (s : State) (r : Record) : Verdict :=
  if r.checkOk then
    if (r.holders ++ r.waiters).all s.memberSound then .sound else .memberFault
  else .recordFault

/-- The directory leaves ONLINE for HALTED: the HALT flag is set and the cause recorded (R17, R153, R154). The state
changes at the end of the operation, whose later steps do not read it. -/
def State.halt (cause : HaltCause) (s : State) : State :=
  let s := s.raise .halt
  { s with dir := { s.dir with state := .halted, haltCause := some cause } }

/-- A record's check code has failed: its slot is quarantined, a CLEANUP job is placed or, with eight pending, the
directory halts with cause CLEANUP_BACKLOG (R98, R151, R154). -/
def State.quarantine (h : Nat) (r : Record) (s : State) : State :=
  let backlog := decide (Config.cleanupJobs ≤ s.cleanupCount)
  let s := s.putSlot h (.quarantined false r)
  let s := if backlog then s else s.placeJob (.cleanup h)
  let s := (s.count .quarantines).raise .quarantine
  if backlog then s.halt .cleanupBacklog else s

/-- A membership's check code has failed (R153). -/
def State.memberFault (s : State) : State := s.halt .membershipFault

/-! ### Allocation (R7, R11, R13, R55) -/

/-- Allocate pool entry `i` to `m`'s agent with the agent's next stamp, and advance that stamp. -/
def State.allocate (i : Nat) (m : Membership) (s : State) : State :=
  let c := s.counts m.agent
  let c := match m.role with
    | .hold => { c with holds := c.holds + 1 }
    | .wait => { c with waits := c.waits + 1 }
  (s.putMember i { m with stamp := (s.counts m.agent).nextStamp }).putCounts m.agent
    { c with nextStamp := c.nextStamp + 1 }

/-- Free a pool entry and take it from its agent's counts; the holdings list, being the set of the agent's entries in
use, loses it with that (R11, R13, R54). -/
def State.freeEntry (i : Nat) (m : Membership) (s : State) : State :=
  (s.freeMember i).editCounts m.agent (fun c =>
    match m.role with
    | .hold => { c with holds := c.holds - 1 }
    | .wait => { c with waits := c.waits - 1 })

/-! ### Removal (R29, R30, R31, R102) -/

/-- Clear the pending upgrade of membership `i` on record `h` (R31, R56). -/
def State.clearUpgrade (h i : Nat) (s : State) : State :=
  match s.member i with
  | none => s
  | some m =>
    (((s.withdrawDeadline i).editMember i (fun x => { x with upgradePending := false })).editRecord h
      (fun r => { r with upgrade := none })).editCounts m.agent (fun c => { c with upgrades := c.upgrades - 1 })

/-- Remove HOLD membership `i` from record `h` (R29). -/
def State.removeHold (h i : Nat) (s : State) : State :=
  match s.member i with
  | none => s
  | some m =>
    let s := s.editRecord h (fun r => { r with holders := r.holders.filter (fun j => decide (j ≠ i)) })
    let s := if m.upgradePending then s.clearUpgrade h i else s
    s.freeEntry i m

/-- Remove WAIT membership `i` from record `h` (R30). -/
def State.removeWait (h i : Nat) (s : State) : State :=
  match s.member i with
  | none => s
  | some m =>
    let s := s.editRecord h (fun r => { r with waiters := r.waiters.filter (fun j => decide (j ≠ i)) })
    (s.withdrawDeadline i).freeEntry i m

/-- Free a membership of a QUARANTINED slot, whose fields are not read (R102, R106). -/
def State.freeDetached (i : Nat) (m : Membership) (s : State) : State :=
  let s := (s.withdrawDeadline i).freeEntry i m
  if m.upgradePending then s.editCounts m.agent (fun c => { c with upgrades := c.upgrades - 1 }) else s

/-! ### Contention (R37, R41, R47) -/

/-- Tell holder `i` that somebody wants the record in mode `wanted`, if it asks for notice and has not been told. -/
def State.contend (h : Nat) (wanted : Mode) (i : Nat) (s : State) : State :=
  match s.member i with
  | none => s
  | some m =>
    if m.notice ∧ ¬m.noticed then
      (s.putMember i { m with noticed := true }).notify m.agent (.contended h m.token wanted)
    else s

/-- Examine holders in grant order (R37, R41). -/
def State.contendAll (h : Nat) (wanted : Mode) (refs : List Nat) (s : State) : State :=
  refs.foldl (fun s i => s.contend h wanted i) s

/-- The contention check of a hold that has just received a token: the mode wanted is that of the waiter now at the
head of the queue (R47). -/
def State.contentionCheck (h i : Nat) (s : State) : State :=
  match s.record h with
  | none => s
  | some r =>
    match r.waiters with
    | [] => s
    | w :: _ =>
      match s.member w with
      | none => s
      | some m => s.contend h m.mode i

/-- A record with neither holders nor waiters retires (R8, R49). -/
def State.retireIfEmpty (h : Nat) (s : State) : State :=
  match s.record h with
  | some r => if r.holders.isEmpty ∧ r.waiters.isEmpty then s.freeSlot h else s
  | none => s

end Sys2Proof.Machine
end

