-- ==== Sys2Proof/Machine/GrantPass.lean ====
section
/-! DEFINITION. The grant pass (section 2.8): the pending upgrade first, then the waiter queue, then retirement. -/

namespace Sys2Proof.Machine

/-- The hold `i` of record `h` becomes EXCLUSIVE with the next token (R40, R45). -/
def State.makeExclusive (h i : Nat) (s : State) : State :=
  let t := s.dir.nextToken
  ((s.editRecord h (fun r => { r with mode := .exclusive })).editMember i
    (fun m => { m with mode := .exclusive, token := t, noticed := false })).advanceToken

/-- The grant of the pending upgrade of `i`, its notification and its contention check (R45). -/
def State.grantUpgrade (h i : Nat) (s : State) : State :=
  match s.member i with
  | none => s
  | some m =>
    let t := s.dir.nextToken
    let s := ((s.clearUpgrade h i).makeExclusive h i).notify m.agent
      (.granted h .exclusive t m.tag true m.prompt)
    (s.count (.agent m.agent .grants)).contentionCheck h i

/-- First stage of the pass: the pending upgrade (R45). The flag says that the pass ends here. -/
def State.upgradeStage (h : Nat) (s : State) : State × Bool :=
  match s.record h with
  | none => (s, false)
  | some r =>
    match r.upgrade with
    | none => (s, false)
    | some i =>
      match s.member i with
      | none => (s, false)
      | some m =>
        if (s.session m.agent).state = .retiring then (s.clearUpgrade h i, false)
        else if r.holders = [i] ∧ ¬s.exhausted then (s.grantUpgrade h i, true)
        else (s, false)

/-- The grant of head waiter `i` of record `h` (R46, R48). -/
def State.grantWaiter (h i : Nat) (s : State) : State :=
  match s.member i with
  | none => s
  | some m =>
    let t := s.dir.nextToken
    let s := s.withdrawDeadline i
    let s := s.editMember i (fun x => { x with role := .hold, token := t, noticed := false })
    let s := s.editRecord h (fun r =>
      { r with
        mode := if r.holders.isEmpty then m.mode else r.mode
        waiters := r.waiters.filter (fun j => decide (j ≠ i))
        holders := r.holders ++ [i] })
    let s := s.advanceToken.editCounts m.agent (fun c => { c with waits := c.waits - 1, holds := c.holds + 1 })
    (s.notify m.agent (.granted h m.mode t m.tag false m.prompt)).count (.agent m.agent .grants)

/-- The record can take a further waiter: it has no holder, or is SHARED with no pending upgrade (R46). -/
def Record.takesWaiter (r : Record) : Bool :=
  r.holders.isEmpty || (decide (r.mode = .shared) && r.upgrade.isNone)

/-- Second stage: grants from the head of the queue, with R44 applied at every look at the head (R46). Each round takes
one waiter from the queue, so the queue's length bounds the rounds. The list is of the holds granted, in order. -/
def State.grantRun (h : Nat) : Nat → List Nat → State → State × List Nat
  | 0, granted, s => (s, granted)
  | fuel + 1, granted, s =>
    match s.record h with
    | none => (s, granted)
    | some r =>
      if Record.takesWaiter r then
        match r.waiters with
        | [] => (s, granted)
        | i :: _ =>
          match s.member i with
          | none => (s, granted)
          | some m =>
            if (s.session m.agent).state = .retiring then State.grantRun h fuel granted (s.removeWait h i)
            else if s.exhausted then (s, granted)
            else if r.holders.isEmpty ∨ m.mode = .shared then
              State.grantRun h fuel (granted ++ [i]) (s.grantWaiter h i)
            else (s, granted)
      else (s, granted)

/-- Second stage with the contention checks after the whole run, in grant order (R47). -/
def State.waiterStage (h : Nat) (s : State) : State :=
  match s.record h with
  | none => s
  | some r =>
    let run := s.grantRun h r.waiters.length []
    run.2.foldl (fun s i => s.contentionCheck h i) run.1

/-- The grant pass on record `h` (R44 to R49). -/
def State.grantPass (h : Nat) (s : State) : State :=
  let first := s.upgradeStage h
  let s := if first.2 then first.1 else first.1.waiterStage h
  s.retireIfEmpty h

end Sys2Proof.Machine
end

