-- ==== Sys2Proof/Machine/Turns.lean ====
section
/-! DEFINITION. The Request Arbiter's choice (R19, R20), the beginning and end of an operation, the take of an agent's
request (R21, R23) and the answer to it (R142, R143). -/

namespace Sys2Proof.Machine

/-! ### The rotation -/

/-- The eleven requesters in their cyclic order (R19). -/
def allRequesters : List Requester :=
  [.agent 0, .agent 1, .agent 2, .agent 3, .agent 4, .agent 5, .agent 6, .agent 7, .expiry, .sweep, .management]

/-- Place of a requester in the cyclic order. -/
def Requester.place : Requester → Nat
  | .agent a => a.val
  | .expiry => 8
  | .sweep => 9
  | .management => 10

/-- The order in which requesters are considered after `last` was served (R19). -/
def rotation (last : Requester) : List Requester :=
  allRequesters.drop (last.place + 1) ++ allRequesters.take (last.place + 1)

/-- The outbound list has a free place (R146). -/
def Port.hasRoom (p : Port) : Bool := decide (p.outboundCount < Config.outboundSize)

/-- A requester is eligible for a turn (R20). -/
def State.eligible (s : State) : Requester → Bool
  | .agent a => !(s.port a).inbound.isEmpty && (s.port a).hasRoom
  | .expiry => !s.deadlines.expiry.isEmpty && decide (s.dir.state = .online)
  | .sweep => !s.sweep.isEmpty && decide (s.dir.state = .online)
  | .management => s.mgmt.busy.isSome

/-- The requester to which the arbiter gives the next turn, while the engine is free (R19). -/
def State.nextTurn (s : State) : Option Requester :=
  if s.arbiter.operation.isSome then none else (rotation s.arbiter.lastServed).find? s.eligible

/-- The next turn falls to `r`; while RESET_N is low no turn is given. -/
def State.turnOf (s : State) (r : Requester) : Bool := s.resetN && decide (s.nextTurn = some r)

/-- The environment's next damage to the storage, which stays until the engine writes the damaged content anew
(Chapter 9; log entry 4). -/
def State.sufferUpset (s : State) : State :=
  match s.upsets with
  | [] => s
  | u :: rest =>
    let s := { s with upsets := rest }
    match u with
    | .none => s
    | .slot h =>
      match s.record h with
      | some r => s.putSlot h (.live { r with checkOk := false })
      | none => s
    | .entry i =>
      match s.member i with
      | some m => { s with dir := { s.dir with pool := Table.put s.dir.pool i { m with checkOk := false } } }
      | none => s

/-- The engine takes an operation of `r` (R19, R22). -/
def State.beginOperation (r : Requester) (s : State) : State :=
  State.sufferUpset { s with arbiter := { lastServed := r, operation := some r } }

/-- The operation ends and the engine is free (R22). -/
def State.endOperation (s : State) : State := { s with arbiter := { s.arbiter with operation := none } }

/-- An operation of a requester other than an agent's queue, if the turn is its own; otherwise nothing happens (log
entry 1). -/
def State.turn (r : Requester) (op : State → State) (s : State) : State :=
  if s.turnOf r then (op (s.beginOperation r)).endOperation else s

/-! ### Taking a request -/

/-- The request at the head of `a`'s queue, when the turn is `a`'s and the request is of kind `k` (R19, R23). -/
def State.taken (s : State) (a : AgentId) (k : ReqKind) : Option (Request × List Request) :=
  if s.turnOf (.agent a) then
    match (s.port a).inbound with
    | q :: rest => if q.body.kind = k then some (q, rest) else none
    | [] => none
  else none

/-- The take: the request leaves the queue, a place is reserved, its tag is in execution and it is counted (R19, R21,
R139, R147). -/
def State.take (a : AgentId) (q : Request) (rest : List Request) (s : State) : State :=
  let s := s.beginOperation (.agent a)
  (s.putPort a { s.port a with inbound := rest, reserved := true, inExecution := some q.tag }).count
    (.agent a .requestsTaken)

/-- The response to a request (R174). -/
def Request.response (q : Request) (r : Result) : Response :=
  { kind := q.body.kind.code, tag := q.tag, epoch := q.epoch, result := r }

/-- Enter an outcome into a replay cache: an entry with its tag is replaced, and a full cache loses its oldest entry
(R142). -/
def enterCache (e : CacheEntry) (cache : List CacheEntry) : List CacheEntry :=
  let kept := cache.filter (fun x => decide (x.tag ≠ e.tag))
  (if Config.replaySize ≤ kept.length then kept.drop 1 else kept) ++ [e]

/-- The outcome of a taken request enters the cache, unless the session is RETIRING or CLOSED (R92, R142). -/
def State.remember (a : AgentId) (q : Request) (r : Result) (s : State) : State :=
  match (s.session a).state with
  | .active | .suspect =>
    let p := s.port a
    s.putPort a
      { p with replay := enterCache { tag := q.tag, kind := q.body.kind, target := q.body.target, result := r } p.replay }
  | .closed | .retiring => s

/-- The response of a taken request joins the list in its reserved place, unless the link is DOWN or a link-down has
released the reservation (R143). -/
def State.respond (a : AgentId) (r : Response) (s : State) : State :=
  let p := s.port a
  s.putPort a
    { p with
      outbound := if p.reserved && p.linkUp then p.outbound ++ [r] else p.outbound
      reserved := false }

/-- The end of an agent's turn: the reply is made, cached where R142 says so, and nothing is in execution any more. -/
def State.finish (a : AgentId) (q : Request) (reply : Reply) (s : State) : State :=
  let s := match reply with
    | .none => s.putPort a { s.port a with reserved := false }
    | .executed r => (s.remember a q r).respond a (q.response r)
    | .refused r => s.respond a (q.response r)
  (s.putPort a { s.port a with inExecution := none }).endOperation

/-- A turn of `a`'s queue whose head is a request of kind `k`, carried out whole by `op` (R22, R23); otherwise nothing
happens (log entry 1). -/
def State.agentTurn (a : AgentId) (k : ReqKind) (op : Request → State → State × Reply) (s : State) : State :=
  match s.taken a k with
  | none => s
  | some (q, rest) =>
    let done := op q (s.take a q rest)
    done.1.finish a q done.2

/-- The checks of a directory request at take; none is a request that is carried out (R14, R23). -/
def State.directoryRefusal (s : State) (a : AgentId) : Option Result :=
  match (s.session a).state with
  | .closed => some .noSession
  | .suspect => some .sessionSuspect
  | .retiring => some .teardownInProgress
  | .active =>
    match s.dir.state with
    | .offline => some .offline
    | .halted => some .halted
    | .online => none

/-- A directory request: refused at take, or carried out by `op` (R23). -/
def State.directoryRequest (a : AgentId) (op : State → State × Result) (s : State) : State × Reply :=
  match s.directoryRefusal a with
  | some r => (s, .refused r)
  | none => let done := op s; (done.1, .executed done.2)

/-- The reads of an operation on the record of slot `h`, and what a failure makes of it: the state after the quarantine
or the halt, and the answer (R12, R150 to R154, Table 9-1). -/
def State.onRecord (h : Nat) (r : Record) (op : State → State × Result) (s : State) : State × Result :=
  match s.verify r with
  | .sound => op s
  | .recordFault => (s.quarantine h r, .recordFault h)
  | .memberFault => (s.memberFault, .halted)

end Sys2Proof.Machine
end

