-- ==== Sys2Proof/Machine/Leases.lean ====
section
/-! DEFINITION. The lease requests (Chapter 2): ACQUIRE, RELEASE, DOWNGRADE, UPGRADE, CANCEL. -/

namespace Sys2Proof.Machine

/-! ### ACQUIRE (R32 to R37) -/

/-- The membership that an ACQUIRE or an immediate grant makes; its stamp is given at allocation (R7, R34, R36). -/
def newMembership (a : AgentId) (h : Nat) (role : Role) (mode : Mode) (token : Token) (tag : Tag)
    (notice prompt : Bool) : Membership :=
  { agent := a, handle := h, role := role, mode := mode, token := token, tag := tag, stamp := 0, deadline := none,
    upgradePending := false, notice := notice, noticed := false, prompt := prompt, checkOk := true }

/-- Record creation, by an ACQUIRE whose name no LIVE slot has (R7, R32). -/
def createRecord (a : AgentId) (tag : Tag) (ns : Byte) (key : Key) (mode : Mode) (notice : Bool) (s : State) :
    State × Result :=
  if s.membershipQuotaReached a then (s, .membershipQuota)
  else
    match Table.lowestFree s.dir.slots Config.slotCount with
    | none => (s, .directoryFull)
    | some h =>
      match Table.lowestFree s.dir.pool Config.poolSize with
      | none => (s, .poolFull)
      | some i =>
        if s.exhausted then (s, .sequenceExhausted)
        else
          let t := s.dir.nextToken
          let s := (s.allocate i (newMembership a h .hold mode t tag notice false)).advanceToken
          let s := s.putRecord h
            { ns := ns, key := key, mode := mode, holders := [i], waiters := [], upgrade := none, checkOk := true }
          (s.count (.agent a .grants), .granted h mode t)

/-- A SHARED request is compatible now (R34). -/
def compatibleNow (mode : Mode) (r : Record) : Bool :=
  decide (mode = .shared) && decide (r.mode = .shared) && r.waiters.isEmpty && r.upgrade.isNone

/-- An immediate SHARED grant on record `h` (R34). -/
def grantAtOnce (a : AgentId) (tag : Tag) (notice : Bool) (h : Nat) (s : State) : State × Result :=
  if s.membershipQuotaReached a then (s, .membershipQuota)
  else
    match Table.lowestFree s.dir.pool Config.poolSize with
    | none => (s, .poolFull)
    | some i =>
      if s.exhausted then (s, .sequenceExhausted)
      else
        let t := s.dir.nextToken
        let s := (s.allocate i (newMembership a h .hold .shared t tag notice false)).advanceToken
        let s := s.editRecord h (fun r => { r with holders := r.holders ++ [i] })
        (s.count (.agent a .grants), .granted h .shared t)

/-- Admission of a wait on record `h`, whose content is `r` (R36, R37, R67). -/
def admitWait (a : AgentId) (tag : Tag) (mode : Mode) (notice prompt : Bool) (deadline : BitVec 16) (h : Nat)
    (r : Record) (s : State) : State × Result :=
  if s.membershipQuotaReached a then (s, .membershipQuota)
  else if s.waitQuotaReached a then (s, .waitQuota)
  else
    match Table.lowestFree s.dir.pool Config.poolSize with
    | none => (s, .poolFull)
    | some i =>
      if r.holders.isEmpty ∧ Config.maxWaiters ≤ r.waiters.length then (s, .sequenceExhausted)
      else
        let s := s.allocate i (newMembership a h .wait mode 0 tag notice prompt)
        let s := s.editRecord h (fun r => { r with waiters := r.waiters ++ [i] })
        let s := s.registerDeadline i .wait deadline
        let s := s.contendAll h mode r.holders
        (s.count (.agent a .waitsAdmitted), .queued h)

/-- An ACQUIRE whose name LIVE slot `h` has, its reads sound (R33 to R36). -/
def acquireExisting (a : AgentId) (tag : Tag) (mode : Mode) (tryNow prompt notice : Bool) (deadline : BitVec 16)
    (h : Nat) (r : Record) (s : State) : State × Result :=
  match s.memberOf a r.holders with
  | some (_, m) => (s, .alreadyHeld h m.mode m.token)
  | none =>
    match s.memberOf a r.waiters with
    | some _ => (s, .alreadyWaiting h)
    | none =>
      if compatibleNow mode r then grantAtOnce a tag notice h s
      else if tryNow then (s, .contended h r.mode r.holders.length)
      else admitWait a tag mode notice prompt deadline h r s

/-- ACQUIRE, past the checks at take (R32, R33). -/
def acquireOp (a : AgentId) (q : Request) (s : State) : State × Result :=
  match q.body with
  | .acquire ns mode tryNow prompt notice deadline key =>
    match s.findName ns key with
    | none => createRecord a q.tag ns key mode notice s
    | some (h, r) => s.onRecord h r (acquireExisting a q.tag mode tryNow prompt notice deadline h r)
  | _ => (s, .badRequest)

/-! ### RELEASE, DOWNGRADE, UPGRADE (R27, R38 to R41) -/

/-- The five checks of a request that names a hold by handle and token; `op` is given the slot's record and the hold
(R27). -/
def State.onHold (a : AgentId) (handle : BitVec 16) (token : Token)
    (op : Nat → Record → Nat → Membership → State → State × Result) (s : State) : State × Result :=
  let h := handle.toNat
  match s.slot h with
  | some (.quarantined _ _) => (s, .recordFault h)
  | none => (s, .notHeld h)
  | some (.live r) =>
    s.onRecord h r (fun s =>
      match s.memberOf a r.holders with
      | none => (s, .notHeld h)
      | some (i, m) => if m.token ≠ token then (s, .staleToken h) else op h r i m s)

/-- RELEASE (R38). -/
def releaseHold (h : Nat) (_r : Record) (i : Nat) (_m : Membership) (s : State) : State × Result :=
  ((s.removeHold h i).grantPass h, .released h)

/-- DOWNGRADE (R39). -/
def downgradeHold (h : Nat) (_r : Record) (i : Nat) (m : Membership) (s : State) : State × Result :=
  match m.mode with
  | .shared => (s, .wrongMode h)
  | .exclusive =>
    let s := s.editRecord h (fun r => { r with mode := .shared })
    let s := s.editMember i (fun x => { x with mode := .shared })
    (s.grantPass h, .downgraded h m.token)

/-- UPGRADE by the sole holder (R40 case 2). -/
def upgradeNow (a : AgentId) (tag : Tag) (prompt : Bool) (h i : Nat) (s : State) : State × Result :=
  if s.exhausted then (s, .sequenceExhausted)
  else
    let t := s.dir.nextToken
    let s := (s.makeExclusive h i).editMember i (fun m => { m with tag := tag, prompt := prompt })
    ((s.count (.agent a .grants)).contentionCheck h i, .granted h .exclusive t)

/-- UPGRADE that sets a pending upgrade (R41, R67). -/
def setUpgrade (a : AgentId) (tag : Tag) (prompt : Bool) (deadline : BitVec 16) (h : Nat) (r : Record) (i : Nat)
    (s : State) : State × Result :=
  if s.waitQuotaReached a then (s, .waitQuota)
  else
    let s := s.editMember i (fun m =>
      { m with upgradePending := true, tag := tag, prompt := prompt, deadline := none })
    let s := s.editRecord h (fun r => { r with upgrade := some i })
    let s := (s.removeDeadline i).registerDeadline i .upgrade deadline
    let s := s.editCounts a (fun c => { c with upgrades := c.upgrades + 1 })
    let s := s.count (.agent a .waitsAdmitted)
    (s.contendAll h .exclusive (r.holders.filter (fun j => decide (j ≠ i))), .queued h)

/-- UPGRADE, past the checks of R27 (R40). -/
def upgradeHold (a : AgentId) (tag : Tag) (prompt : Bool) (deadline : BitVec 16) (h : Nat) (r : Record) (i : Nat)
    (m : Membership) (s : State) : State × Result :=
  match m.mode with
  | .exclusive => (s, .wrongMode h)
  | .shared =>
    if r.holders = [i] then upgradeNow a tag prompt h i s
    else
      match r.upgrade with
      | some j => if j = i then (s, .alreadyWaiting h) else (s, .upgradeConflict h)
      | none => setUpgrade a tag prompt deadline h r i s

/-- RELEASE, past the checks at take. -/
def releaseOp (a : AgentId) (q : Request) (s : State) : State × Result :=
  match q.body with
  | .release handle token => s.onHold a handle token releaseHold
  | _ => (s, .badRequest)

/-- DOWNGRADE, past the checks at take. -/
def downgradeOp (a : AgentId) (q : Request) (s : State) : State × Result :=
  match q.body with
  | .downgrade handle token => s.onHold a handle token downgradeHold
  | _ => (s, .badRequest)

/-- UPGRADE, past the checks at take. -/
def upgradeOp (a : AgentId) (q : Request) (s : State) : State × Result :=
  match q.body with
  | .upgrade handle token prompt deadline => s.onHold a handle token (upgradeHold a q.tag prompt deadline)
  | _ => (s, .badRequest)

/-! ### CANCEL (R42) -/

/-- CANCEL on a LIVE record whose reads are sound. -/
def cancelOn (a : AgentId) (h : Nat) (r : Record) (s : State) : State × Result :=
  match s.memberOf a r.waiters with
  | some (i, _) => ((s.removeWait h i).grantPass h, .cancelled h)
  | none =>
    match s.memberOf a r.holders with
    | some (i, m) =>
      if m.upgradePending then ((s.clearUpgrade h i).grantPass h, .cancelled h)
      else (s, .alreadyGranted h m.mode m.token)
    | none => (s, .notWaiting h)

/-- CANCEL, past the checks at take (R42). -/
def cancelOp (a : AgentId) (q : Request) (s : State) : State × Result :=
  match q.body with
  | .cancel handle =>
    let h := handle.toNat
    match s.slot h with
    | some (.quarantined _ _) => (s, .recordFault h)
    | none => (s, .notWaiting h)
    | some (.live r) => s.onRecord h r (cancelOn a h r)
  | _ => (s, .badRequest)

/-! ### Meanings -/

/-- ACQUIRE. -/
def execAcquire (a : AgentId) (s : State) : Host.Outcome State Fault Refusal :=
  .next (s.agentTurn a .acquire (fun q => State.directoryRequest a (acquireOp a q)))

/-- RELEASE. -/
def execRelease (a : AgentId) (s : State) : Host.Outcome State Fault Refusal :=
  .next (s.agentTurn a .release (fun q => State.directoryRequest a (releaseOp a q)))

/-- DOWNGRADE. -/
def execDowngrade (a : AgentId) (s : State) : Host.Outcome State Fault Refusal :=
  .next (s.agentTurn a .downgrade (fun q => State.directoryRequest a (downgradeOp a q)))

/-- UPGRADE. -/
def execUpgrade (a : AgentId) (s : State) : Host.Outcome State Fault Refusal :=
  .next (s.agentTurn a .upgrade (fun q => State.directoryRequest a (upgradeOp a q)))

/-- CANCEL. -/
def execCancel (a : AgentId) (s : State) : Host.Outcome State Fault Refusal :=
  .next (s.agentTurn a .cancel (fun q => State.directoryRequest a (cancelOp a q)))

end Sys2Proof.Machine
end

