-- ==== Sys2Proof/Machine/Sessions.lean ====
section
/-! DEFINITION. The Session Controller (Chapter 5): the entries into SUSPECT and RETIRING, teardown completion, and the
meanings of OPEN, RESUME, CLOSE, FLUSH and the two session timers. -/

namespace Sys2Proof.Machine

/-! ### Shared operations -/

/-- The due time of a grace timer started now (R94). -/
def State.graceStart (s : State) : Option Time := some (dueAfter s.clock.ms s.mgmt.config.grace)

/-- The due time of a lapse timer started now (R94). -/
def State.lapseStart (s : State) : Option Time := some (dueAfter s.clock.ms s.mgmt.config.lapse)

/-- The port's report of an accepted frame restarts the grace timer of an ACTIVE session whose epoch it carries
(R83). -/
def State.frameReport (a : AgentId) (epoch : Epoch) (s : State) : State :=
  let c := s.session a
  if c.state = .active ∧ epoch = c.epoch then s.putSession a { c with graceDue := s.graceStart } else s

/-- Entry into SUSPECT, which only an ACTIVE session makes (R86). -/
def State.enterSuspect (a : AgentId) (cause : SuspectCause) (s : State) : State :=
  let c := s.session a
  if c.state = .active then
    (s.putSession a
      { c with state := .suspect, suspectCause := some cause, graceDue := none, lapseDue := s.lapseStart }).stallModerator a
  else s

/-- Entry into RETIRING, with the close tag of a CLOSE (R89, R90, R92, R97). -/
def State.enterRetiring (a : AgentId) (cause : RetireCause) (closeTag : Option Tag) (s : State) : State :=
  let s := s.putSession a
    { s.session a with
      state := .retiring, retireCause := some cause, graceDue := none, lapseDue := none, closeTag := closeTag }
  let s := s.putPort a { s.port a with replay := [] }
  let s := (s.retireModerator a).placeJob (.teardown a)
  match cause with
  | .lapsed => s.raise .sessionLapse
  | .agentClose => s
  | .evicted => s

/-- The epoch of the session that an OPEN opens: 65535 is followed by 1 (R77). -/
def nextEpoch (e : Epoch) : Epoch := if e = 0xFFFF then 1 else e + 1

/-- Opening a session (R80). -/
def State.openSessionOf (a : AgentId) (s : State) : State :=
  let c := s.session a
  let e := nextEpoch c.epoch
  let s := s.putSession a
    { c with
      state := .active, epoch := e, suspectCause := none, retireCause := none, lapseDue := none
      graceDue := s.graceStart }
  let s := s.editCounts a (fun k => { k with nextStamp := 1 })
  let s := s.openModerator a e
  s.putPort a { s.port a with replay := [] }

/-- Teardown completion at the Session Controller and the Deadline Unit (R74, R93, R104). -/
def State.completeTeardown (a : AgentId) (s : State) : State :=
  let c := s.session a
  let s := s.putSession a { c with state := .closed, closeTag := none }
  let s := match c.retireCause, c.closeTag with
    | some .agentClose, some t =>
      let p := s.port a
      let r : Response := { kind := ReqKind.close.code, tag := t, epoch := c.epoch, result := .closed c.epoch }
      if p.linkUp ∧ p.hasRoom then s.putPort a { p with outbound := p.outbound ++ [r] } else s
    | _, _ => s
  s.removeAgentDeadlines a

/-! ### Session requests at take (R78) -/

/-- OPEN is decided by the session's state alone (R79). -/
def openOp (a : AgentId) (_q : Request) (s : State) : State × Reply :=
  let c := s.session a
  match c.state with
  | .closed =>
    match s.dir.state with
    | .online => (s.openSessionOf a, .executed (.opened (nextEpoch c.epoch)))
    | .offline => (s, .refused .offline)
    | .halted => (s, .refused .halted)
  | .active => (s, .executed (.sessionExists c.epoch .active))
  | .suspect => (s, .executed (.sessionExists c.epoch .suspect))
  | .retiring => (s, .refused .teardownInProgress)

/-- RESUME (R78, R81). -/
def resumeOp (a : AgentId) (q : Request) (s : State) : State × Reply :=
  let c := s.session a
  match c.state with
  | .closed => (s, .refused .sessionLost)
  | .active =>
    if q.epoch ≠ c.epoch then (s, .refused .staleSession)
    else (s.putSession a { c with graceDue := s.graceStart }, .executed (.resumed c.epoch))
  | .suspect =>
    if q.epoch ≠ c.epoch then (s, .refused .staleSession)
    else
      ((s.putSession a
          { c with state := .active, lapseDue := none, suspectCause := none, graceDue := s.graceStart }).resumeModerator a,
        .executed (.resumed c.epoch))
  | .retiring => if q.epoch ≠ c.epoch then (s, .refused .staleSession) else (s, .refused .sessionLost)

/-- CLOSE: its CLOSED response is deferred to teardown completion (R78, R90). -/
def closeOp (a : AgentId) (q : Request) (s : State) : State × Reply :=
  let c := s.session a
  match c.state with
  | .closed => (s, .refused .noSession)
  | .active | .suspect =>
    if q.epoch ≠ c.epoch then (s, .refused .staleSession)
    else (s.enterRetiring a .agentClose (some q.tag), .none)
  | .retiring => if q.epoch ≠ c.epoch then (s, .refused .staleSession) else (s, .refused .teardownInProgress)

/-- FLUSH (R78, R119). -/
def flushOp (a : AgentId) (q : Request) (s : State) : State × Reply :=
  let c := s.session a
  match c.state with
  | .closed => (s, .refused .noSession)
  | .active | .suspect =>
    if q.epoch ≠ c.epoch then (s, .refused .staleSession) else (s.flushModerator a, .executed .flushed)
  | .retiring => if q.epoch ≠ c.epoch then (s, .refused .staleSession) else (s, .refused .teardownInProgress)

/-! ### Meanings -/

/-- OPEN (R79). -/
def execOpen (a : AgentId) (s : State) : Host.Outcome State Fault Refusal :=
  .next (s.agentTurn a .openSession (openOp a))

/-- RESUME (R81). -/
def execResume (a : AgentId) (s : State) : Host.Outcome State Fault Refusal :=
  .next (s.agentTurn a .resume (resumeOp a))

/-- CLOSE (R90). -/
def execClose (a : AgentId) (s : State) : Host.Outcome State Fault Refusal :=
  .next (s.agentTurn a .close (closeOp a))

/-- FLUSH (R119). -/
def execFlush (a : AgentId) (s : State) : Host.Outcome State Fault Refusal :=
  .next (s.agentTurn a .flush (flushOp a))

/-- The grace timer of an ACTIVE session has reached its due time (R85, R94). -/
def State.graceExpires (s : State) (a : AgentId) : Bool :=
  decide ((s.session a).state = .active) && timerReached s.clock.ms (s.session a).graceDue

/-- The lapse timer of a SUSPECT session has reached its due time (R89, R94). -/
def State.lapseExpires (s : State) (a : AgentId) : Bool :=
  decide ((s.session a).state = .suspect) && timerReached s.clock.ms (s.session a).lapseDue

/-- GRACE_TIMER_EXPIRY (R85). -/
def execGraceTimerExpiry (a : AgentId) (s : State) : Host.Outcome State Fault Refusal :=
  .next (if s.resetN && s.graceExpires a then s.enterSuspect a .quiet else s)

/-- LAPSE_TIMER_EXPIRY (R89). -/
def execLapseTimerExpiry (a : AgentId) (s : State) : Host.Outcome State Fault Refusal :=
  .next (if s.resetN && s.lapseExpires a then s.enterRetiring a .lapsed none else s)

end Sys2Proof.Machine
end

