-- ==== Sys2Proof/Machine/Links.lean ====
section
/-! DEFINITION. The Agent Port (Chapter 8): link events, the arrival of frames, the transmitter; and the moderator's two
timers (Chapter 7). -/

namespace Sys2Proof.Machine

/-! ### Link events (R133, R134) -/

/-- The receiver locks; a link-up that finds the link UP changes nothing (R133). -/
def State.linkUp (a : AgentId) (s : State) : State := s.putPort a { s.port a with linkUp := true }

/-- The receiver loses lock; a link-down that finds the link DOWN changes nothing (R133, R134, R147). -/
def State.linkDown (a : AgentId) (s : State) : State :=
  let p := s.port a
  if p.linkUp then
    let s := s.putPort a
      { p with
        linkUp := false, inbound := [], outbound := [], reserved := false, digestPlace := none, transmitting := none }
    (s.count (.agent a .linkDowns)).enterSuspect a .linkLost
  else s

/-! ### Arrival of a request (R137 to R141) -/

/-- The replay cache's answer to a request, if it is replayed (R138). -/
def State.replayOf (s : State) (a : AgentId) (q : RawRequest) : Option Result :=
  let c := s.session a
  match ReqKind.ofCode q.kind with
  | none => none
  | some k =>
    if c.state = .active ∧ (q.epoch = c.epoch ∨ k = .openSession) then
      match rawTarget k q.body with
      | none => none
      | some t =>
        ((s.port a).replay.find? (fun e => decide (e.tag = q.tag ∧ e.kind = k ∧ e.target = t))).map CacheEntry.result
    else none

/-- A request with its tag stands in the queue or is in execution (R139). -/
def Port.holdsTag (p : Port) (t : Tag) : Bool :=
  p.inbound.any (fun q => decide (q.tag = t)) || decide (p.inExecution = some t)

/-- The session judgment at arrival; none is a request that passes (R78, R140). A kind of none is an unknown kind. -/
def judgeArrival (c : Session) (k : Option ReqKind) (epoch : Epoch) : Option Result :=
  match k with
  | some .openSession =>
    match c.state with
    | .closed => none
    | .active => some (.sessionExists c.epoch .active)
    | .suspect => some (.sessionExists c.epoch .suspect)
    | .retiring => some .teardownInProgress
  | some .resume =>
    match c.state with
    | .closed => some .sessionLost
    | .active | .suspect => if epoch ≠ c.epoch then some .staleSession else none
    | .retiring => if epoch ≠ c.epoch then some .staleSession else some .sessionLost
  | some .close | some .flush =>
    match c.state with
    | .closed => some .noSession
    | .active | .suspect => if epoch ≠ c.epoch then some .staleSession else none
    | .retiring => if epoch ≠ c.epoch then some .staleSession else some .teardownInProgress
  | some .acquire | some .release | some .downgrade | some .upgrade | some .cancel | some .lookup | some .list =>
    match c.state with
    | .closed => some .noSession
    | .active => if epoch ≠ c.epoch then some .staleSession else none
    | .suspect => if epoch ≠ c.epoch then some .staleSession else some .sessionSuspect
    | .retiring => if epoch ≠ c.epoch then some .staleSession else some .teardownInProgress
  | none =>
    match c.state with
    | .closed => some .noSession
    | .active | .suspect | .retiring => if epoch ≠ c.epoch then some .staleSession else none

/-- A response made at arrival joins the list if it has a free place; otherwise the request is dropped and counted. The
flag says that it joined (R137). -/
def State.answerArrival (a : AgentId) (q : RawRequest) (r : Result) (s : State) : State × Bool :=
  let p := s.port a
  let x : Response := { kind := q.kind, tag := q.tag, epoch := q.epoch, result := r }
  if p.hasRoom then (s.putPort a { p with outbound := p.outbound ++ [x] }, true)
  else (s.count (.agent a .framesDiscarded), false)

/-- The well-formed request that a REQUEST frame carries, if it is not malformed (R140). -/
def RawRequest.parse (q : RawRequest) : Option Request :=
  match ReqKind.ofCode q.kind with
  | none => none
  | some k =>
    match readBody k q.body with
    | none => none
    | some b => some { tag := q.tag, epoch := q.epoch, body := b }

/-- The arrival checks (R137). -/
def State.arriveRequest (a : AgentId) (q : RawRequest) (s : State) : State :=
  match s.replayOf a q with
  | some r =>
    let done := s.answerArrival a q r
    if done.2 then done.1.count (.agent a .replays) else done.1
  | none =>
    if (s.port a).holdsTag q.tag then s.count (.agent a .framesDiscarded)
    else
      match judgeArrival (s.session a) (ReqKind.ofCode q.kind) q.epoch with
      | some r => (s.answerArrival a q r).1
      | none =>
        match q.parse with
        | none => (s.answerArrival a q .badRequest).1
        | some x =>
          let p := s.port a
          if p.inbound.length < Config.inboundSize then s.putPort a { p with inbound := p.inbound ++ [x] }
          else (s.answerArrival a q .busy).1

/-! ### Arrival of a frame (R135, R136) -/

/-- What a frame that passed the frame checks does, by its type (R136). -/
def State.arrive (a : AgentId) (x : Arrival) (s : State) : State :=
  match x with
  | .keepalive e => s.frameReport a e
  | .ack n e => (s.frameReport a e).judgeAck a n e
  | .request q => (s.frameReport a q.epoch).arriveRequest a q

/-- The receiver of `a`'s port completes a frame; while the link is DOWN it receives none (R133, R135). -/
def State.receive (a : AgentId) (frame : List Byte) (s : State) : State :=
  if s.resetN && (s.port a).linkUp then
    match readFrame frame with
    | some x => s.arrive a x
    | none => s.count (.agent a .framesDiscarded)
  else s

/-! ### The transmitter (R145) -/

/-- An idle transmitter on an UP link begins the next frame: the waiting digest, otherwise the head response (R145). -/
def State.transmit (a : AgentId) (s : State) : State :=
  let p := s.port a
  if p.linkUp ∧ p.transmitting = none then
    match p.digestPlace with
    | some d => s.putPort a { p with digestPlace := none, transmitting := some d.frame }
    | none =>
      match p.outbound with
      | r :: rest => s.putPort a { p with outbound := rest, transmitting := some r.frame }
      | [] => s
  else s

/-! ### The moderator's timers (R117, R123) -/

/-- The hold timer of a COLLECTING moderator has reached its due time (R117). -/
def State.holdExpires (s : State) (a : AgentId) : Bool :=
  decide ((s.moderator a).state = .collecting) && timerReached s.clock.us (s.moderator a).holdDue

/-- The retransmit timer of an OUTSTANDING moderator has reached its due time (R123). -/
def State.retransmitExpires (s : State) (a : AgentId) : Bool :=
  decide ((s.moderator a).state = .outstanding) && timerReached s.clock.ms (s.moderator a).retransmitDue

/-- Exhaustion of the retries: the moderator enters STALLED and reports NO_ACK (R88, R124). -/
def State.exhaustRetries (a : AgentId) (s : State) : State :=
  (s.putModerator a { s.moderator a with state := .stalled, retransmitDue := none }).enterSuspect a .noAck

/-- The retransmit timer expires (R123). -/
def State.retransmit (a : AgentId) (s : State) : State :=
  let m := s.moderator a
  match m.inFlight with
  | none => s
  | some d =>
    if m.retransmitCount < s.mgmt.config.retransmitLimit.toNat then s.resend a d (m.retransmitCount + 1)
    else s.exhaustRetries a

/-! ### Meanings -/

/-- LINK_UP (R133). -/
def execLinkUp (a : AgentId) (s : State) : Host.Outcome State Fault Refusal :=
  .next (if s.resetN then s.linkUp a else s)

/-- LINK_DOWN (R134). -/
def execLinkDown (a : AgentId) (s : State) : Host.Outcome State Fault Refusal :=
  .next (if s.resetN then s.linkDown a else s)

/-- KEEPALIVE (R84). -/
def execKeepalive (a : AgentId) (frame : List Byte) (s : State) : Host.Outcome State Fault Refusal :=
  .next (s.receive a frame)

/-- ACK (R121). -/
def execAck (a : AgentId) (frame : List Byte) (s : State) : Host.Outcome State Fault Refusal :=
  .next (s.receive a frame)

/-- REQUEST (R137). -/
def execRequest (a : AgentId) (frame : List Byte) (s : State) : Host.Outcome State Fault Refusal :=
  .next (s.receive a frame)

/-- TRANSMIT_FRAME (R145). -/
def execTransmitFrame (a : AgentId) (s : State) : Host.Outcome State Fault Refusal :=
  .next (if s.resetN then s.transmit a else s)

/-- FRAME_END (R145). -/
def execFrameEnd (a : AgentId) (s : State) : Host.Outcome State Fault Refusal :=
  .next (if s.resetN then s.putPort a { s.port a with transmitting := none } else s)

/-- HOLD_TIMER_EXPIRY (R117). -/
def execHoldTimerExpiry (a : AgentId) (s : State) : Host.Outcome State Fault Refusal :=
  .next (if s.resetN && s.holdExpires a then s.emit a else s)

/-- RETRANSMIT_TIMER_EXPIRY (R123). -/
def execRetransmitTimerExpiry (a : AgentId) (s : State) : Host.Outcome State Fault Refusal :=
  .next (if s.resetN && s.retransmitExpires a then s.retransmit a else s)

end Sys2Proof.Machine
end

