-- ==== Sys2Proof/Machine/ManagementPort.lean ====
section
/-! DEFINITION. The Management Port (Chapter 10): register writes, the command register, the direct commands, and the
four commands of the management turn (R18, R51, R63, R156). -/

namespace Sys2Proof.Machine

/-! ### Register writes -/

/-- Range of a configuration value (Table 10-2). -/
def configRange : ConfigReg → Nat × Nat
  | .grace => (10, 60000)
  | .lapse => (10, 60000)
  | .countThreshold => (0, 16)
  | .holdTime => (0, 65535)
  | .retransmitInterval => (1, 1000)
  | .retransmitLimit => (1, 7)
  | .membershipQuota _ => (0, 8192)
  | .waitQuota _ => (0, 1024)

/-- A value lies in its range, compared as a whole 32-bit value (R163). -/
def configInRange (r : ConfigReg) (value : Word) : Bool :=
  decide ((configRange r).1 ≤ value.toNat) && decide (value.toNat ≤ (configRange r).2)

/-- Store a configuration value. -/
def ConfigValues.put (c : ConfigValues) (r : ConfigReg) (value : Word) : ConfigValues :=
  match r with
  | .grace => { c with grace := value }
  | .lapse => { c with lapse := value }
  | .countThreshold => { c with countThreshold := value }
  | .holdTime => { c with holdTime := value }
  | .retransmitInterval => { c with retransmitInterval := value }
  | .retransmitLimit => { c with retransmitLimit := value }
  | .membershipQuota a => { c with membershipQuota := Per.put c.membershipQuota a value }
  | .waitQuota a => { c with waitQuota := Per.put c.waitQuota a value }

/-- A write to a configuration register (R163). -/
def State.writeConfig (r : ConfigReg) (value : Word) (s : State) : State :=
  if configInRange r value then { s with mgmt := { s.mgmt with config := s.mgmt.config.put r value } }
  else s.raise .configReject

/-- A write to the fault summary clears each flag written with 1 (R157). -/
def State.writeFaults (value : Word) (s : State) : State :=
  { s with mgmt := { s.mgmt with faults := s.mgmt.faults &&& ~~~(value.setWidth 5) } }

/-- A write to the enables sets them as written (R158). -/
def State.writeEnables (value : Word) (s : State) : State :=
  { s with mgmt := { s.mgmt with enables := value.setWidth 5 } }

/-- A write of any value to a statistic clears it (R172). -/
def State.clearStat (r : StatReg) (s : State) : State := { s with mgmt := s.mgmt.putStat r 0 }

/-- A read of the low half of next token captures the whole (R162). -/
def State.captureToken (s : State) : State := { s with mgmt := { s.mgmt with holding := s.dir.nextToken } }

/-- A write to a register of the remaining kinds: an argument register stores it, every other ignores it (R161). -/
def State.writePlain (address : BitVec 16) (value : Word) (s : State) : State :=
  if address = arg0Address then { s with mgmt := { s.mgmt with arg0 := value } }
  else if address = arg1Address then { s with mgmt := { s.mgmt with arg1 := value } }
  else s

/-! ### The command register (R165, R166) -/

/-- What a command code names (R176). -/
inductive CommandName where
  | enableDirectory
  | loadTokenFloor
  | evictAgent
  | arbiter (c : ArbiterCommand)
  deriving DecidableEq, Repr

/-- Codes of the arbiter commands (R176). -/
def arbiterCode : ArbiterCommand → Byte
  | .breakRecord => 0x10
  | .inspectRecord => 0x11
  | .clearQuarantine => 0x12
  | .resetDirectory => 0x1F

/-- Command codes (R176). -/
def CommandName.code : CommandName → Byte
  | .enableDirectory => 0x01
  | .loadTokenFloor => 0x02
  | .evictAgent => 0x03
  | .arbiter c => arbiterCode c

/-- The command a code names; none is BAD_COMMAND (R176). -/
def CommandName.ofCode (c : Byte) : Option CommandName :=
  if c = 0x01 then some .enableDirectory
  else if c = 0x02 then some .loadTokenFloor
  else if c = 0x03 then some .evictAgent
  else if c = 0x10 then some (.arbiter .breakRecord)
  else if c = 0x11 then some (.arbiter .inspectRecord)
  else if c = 0x12 then some (.arbiter .clearQuarantine)
  else if c = 0x1F then some (.arbiter .resetDirectory)
  else none

/-- The first change of an issue: the new result (R165). -/
def State.newResult (code : Byte) (s : State) : State :=
  { s with mgmt := { s.mgmt with result := { code := code, outcome := .none, reason := none, value := 0 } } }

/-- A command ends DONE (R165). -/
def State.endDone (value : Nat) (s : State) : State :=
  { s with mgmt :=
      { s.mgmt with
        busy := none
        result := { s.mgmt.result with outcome := .done, reason := none, value := value } } }

/-- A command ends REFUSED (R165). -/
def State.endRefused (reason : Reason) (s : State) : State :=
  { s with mgmt :=
      { s.mgmt with
        busy := none
        result := { s.mgmt.result with outcome := .refused, reason := some reason, value := 0 } } }

/-- ENABLE_DIRECTORY (R16). -/
def State.enable (s : State) : State :=
  match s.dir.state with
  | .offline => State.endDone 0 { s with dir := { s.dir with state := .online } }
  | .online => s.endRefused .notOffline
  | .halted => s.endRefused .notOffline

/-- LOAD_TOKEN_FLOOR with its 64-bit value (R26). -/
def State.loadFloor (value : Token) (s : State) : State :=
  if s.dir.state ≠ .offline then s.endRefused .notOffline
  else if s.exhausted then s.endRefused .sequenceExhausted
  else if value < s.dir.nextToken then s.endRefused .belowFloor
  else State.endDone 0 { s with dir := { s.dir with nextToken := value } }

/-- EVICT_AGENT with its argument (R91). -/
def State.evict (arg : Word) (s : State) : State :=
  if h : arg.toNat < 8 then
    let a : AgentId := ⟨arg.toNat, h⟩
    match (s.session a).state with
    | .closed => s.endRefused .notOpen
    | .retiring => s.endRefused .alreadyRetiring
    | .active => (s.enterRetiring a .evicted none).endDone 0
    | .suspect => (s.enterRetiring a .evicted none).endDone 0
  else s.endRefused .badAgent

/-- A write to CMD: lost while a command is BUSY; otherwise it issues the command its low byte names, which is carried
out at once or waits for its turn (R165 to R168, R176). -/
def State.writeCommand (value : Word) (s : State) : State :=
  if s.mgmt.busy.isSome then s.raise .commandRefused
  else
    let code : Byte := value.setWidth 8
    let t := s.newResult code
    match CommandName.ofCode code with
    | none => t.endRefused .badCommand
    | some .enableDirectory => t.enable
    | some .loadTokenFloor => t.loadFloor (s.mgmt.arg1 ++ s.mgmt.arg0)
    | some .evictAgent => t.evict s.mgmt.arg0
    | some (.arbiter c) =>
      { t with mgmt := { t.mgmt with busy := some { command := c, arg0 := s.mgmt.arg0, arg1 := s.mgmt.arg1 } } }

/-- A write of an address of the window, by the access kind of the address (R161, Table 10-1). -/
def State.writeRegister (address : BitVec 16) (value : Word) (s : State) : State :=
  match configAt address with
  | some r => s.writeConfig r value
  | none =>
    match statAt address with
    | some r => s.clearStat r
    | none =>
      if address = faultSummaryAddress then s.writeFaults value
      else if address = faultEnableAddress then s.writeEnables value
      else if address = commandAddress then s.writeCommand value
      else s.writePlain address value

/-! ### BREAK_RECORD (R51) -/

/-- Remove one holder and tell its agent (R51). -/
def State.revoke (h i : Nat) (s : State) : State :=
  match s.member i with
  | none => s
  | some m => (s.removeHold h i).notify m.agent (.revoked h m.token)

/-- Remove every holder in grant order. -/
def State.revokeAll (h : Nat) (refs : List Nat) (s : State) : State := refs.foldl (fun s i => s.revoke h i) s

/-- A command that names a record slot: the handle and the halt are checked first (R51, R63, R156). -/
def onHandle (c : IssuedCommand) (op : Nat → State → State) (s : State) : State :=
  let h := c.arg0.toNat
  if Config.slotCount ≤ h then s.endRefused .badHandle
  else if s.dir.state = .halted then s.endRefused .halted
  else op h s

/-- BREAK_RECORD past the first two checks. -/
def breakSlot (h : Nat) (s : State) : State :=
  match s.record h with
  | none => s.endRefused .notLive
  | some r =>
    match s.verify r with
    | .sound => ((s.revokeAll h r.holders).grantPass h).endDone r.holders.length
    | .recordFault => (s.quarantine h r).endRefused .recordFault
    | .memberFault => s.memberFault.endRefused .membershipFault

/-! ### INSPECT_RECORD (R63, R64) -/

/-- The remaining time of the deadline of entry `i` (R66): an entry that has joined the expiry queue has 0. -/
def State.inspectRemaining (s : State) (i : Nat) : Nat :=
  match s.deadlines.list.find? (fun e => decide (e.index = i)) with
  | some e => remaining s.clock.ms e.due - 1
  | none => 0

/-- A member entry of the window (R64). -/
def State.windowMember (s : State) (i : Nat) : Option WindowMember :=
  match s.member i with
  | none => none
  | some m =>
    some
      { index := i, agent := m.agent, role := m.role, mode := m.mode, token := m.token, tag := m.tag
        stamp := m.stamp, upgradePending := m.upgradePending, notice := m.notice, noticed := m.noticed
        prompt := m.prompt
        deadline := if m.deadline.isSome then some (s.inspectRemaining i) else none }

/-- The window of a slot whose other fields are not shown (R63, R152; log entry 13). -/
def Window.ofSlot (h : Nat) (slot : WindowSlot) (cleaned : Bool) : Window :=
  { Window.cleared with valid := true, handle := h, slot := slot, cleaned := cleaned }

/-- The window of a sound LIVE record (R64). -/
def State.windowOf (s : State) (h : Nat) (r : Record) : Window :=
  { valid := true, slot := .live, cleaned := false, handle := h, ns := r.ns, key := r.key, mode := some r.mode
    holderCount := r.holders.length, waiterCount := r.waiters.length
    upgradeMember := r.upgrade.map (fun i => r.holders.idxOf i)
    members := (r.holders ++ r.waiters).filterMap s.windowMember }

/-- Write the window. -/
def State.putWindow (w : Window) (s : State) : State := { s with mgmt := { s.mgmt with window := w } }

/-- INSPECT_RECORD past the first two checks. -/
def inspectSlot (h : Nat) (s : State) : State :=
  match s.slot h with
  | none => (s.putWindow (Window.ofSlot h .free false)).endDone 0
  | some (.quarantined cleaned _) => (s.putWindow (Window.ofSlot h .quarantined cleaned)).endDone 0
  | some (.live r) =>
    match s.verify r with
    | .sound => (s.putWindow (s.windowOf h r)).endDone 0
    | .recordFault => ((s.quarantine h r).putWindow (Window.ofSlot h .quarantined false)).endRefused .recordFault
    | .memberFault => (s.memberFault.putWindow (Window.ofSlot h .live false)).endRefused .membershipFault

/-! ### CLEAR_QUARANTINE (R156) -/

/-- CLEAR_QUARANTINE past the first two checks. -/
def clearSlot (h : Nat) (s : State) : State :=
  match s.slot h with
  | some (.quarantined true _) => (s.freeSlot h).endDone 0
  | some (.quarantined false _) => s.endRefused .notCleaned
  | some (.live _) => s.endRefused .notQuarantined
  | none => s.endRefused .notQuarantined

/-! ### RESET_DIRECTORY (R18, R169, Table 10-4) -/

/-- The directory keeps next token only (R18). -/
def Directory.restart (d : Directory) : Directory := { Directory.reset with nextToken := d.nextToken }

/-- A session keeps its epoch only (R95). -/
def Session.restart (c : Session) : Session := { Session.reset with epoch := c.epoch }

/-- A port keeps its link state and the frame in transmission (R148). -/
def Port.restart (p : Port) : Port := { Port.reset with linkUp := p.linkUp, transmitting := p.transmitting }

/-- RESET_DIRECTORY at its turn. -/
def State.resetDirectory (s : State) : State :=
  State.endDone 0
    { s with
      dir := s.dir.restart
      deadlines := DeadlineUnit.reset
      sessions := s.sessions.map Session.restart
      sweep := []
      moderators := Vector.replicate 8 Moderator.reset
      ports := s.ports.map Port.restart
      mgmt := { s.mgmt with window := Window.cleared } }

/-! ### The management turn -/

/-- The management turn of the command `c`, if `c` is BUSY and the turn is the Management Port's (R168). -/
def State.managementTurn (c : ArbiterCommand) (op : IssuedCommand → State → State) (s : State) : State :=
  match s.mgmt.busy with
  | some b => if b.command = c then s.turn .management (op b) else s
  | none => s

/-! ### Meanings -/

/-- ENABLE_DIRECTORY (R16): its code is written to CMD. -/
def execEnableDirectory (upper : BitVec 24) (s : State) : Host.Outcome State Fault Refusal :=
  .next (if s.resetN then s.writeCommand (upper ++ CommandName.enableDirectory.code) else s)

/-- LOAD_TOKEN_FLOOR (R26): its code is written to CMD. -/
def execLoadTokenFloor (upper : BitVec 24) (s : State) : Host.Outcome State Fault Refusal :=
  .next (if s.resetN then s.writeCommand (upper ++ CommandName.loadTokenFloor.code) else s)

/-- EVICT_AGENT (R91): its code is written to CMD. -/
def execEvictAgent (upper : BitVec 24) (s : State) : Host.Outcome State Fault Refusal :=
  .next (if s.resetN then s.writeCommand (upper ++ CommandName.evictAgent.code) else s)

/-- ARBITER_COMMAND_ISSUE (R168): the code of `c` is written to CMD. -/
def execArbiterCommandIssue (c : ArbiterCommand) (upper : BitVec 24) (s : State) :
    Host.Outcome State Fault Refusal :=
  .next (if s.resetN then s.writeCommand (upper ++ arbiterCode c) else s)

/-- BAD_COMMAND (R166). -/
def execBadCommand (value : Word) (s : State) : Host.Outcome State Fault Refusal :=
  .next (if s.resetN then s.writeCommand value else s)

/-- LOST_COMMAND_WRITE (R166). -/
def execLostCommandWrite (value : Word) (s : State) : Host.Outcome State Fault Refusal :=
  .next (if s.resetN then s.writeCommand value else s)

/-- CONFIGURATION_WRITE (R163). -/
def execConfigurationWrite (r : ConfigReg) (value : Word) (s : State) : Host.Outcome State Fault Refusal :=
  .next (if s.resetN then s.writeConfig r value else s)

/-- FAULT_SUMMARY_WRITE (R157). -/
def execFaultSummaryWrite (value : Word) (s : State) : Host.Outcome State Fault Refusal :=
  .next (if s.resetN then s.writeFaults value else s)

/-- FAULT_ENABLE_WRITE (R158). -/
def execFaultEnableWrite (value : Word) (s : State) : Host.Outcome State Fault Refusal :=
  .next (if s.resetN then s.writeEnables value else s)

/-- STATISTIC_WRITE (R172). -/
def execStatisticWrite (r : StatReg) (_value : Word) (s : State) : Host.Outcome State Fault Refusal :=
  .next (if s.resetN then s.clearStat r else s)

/-- NTOK_LO (R162). -/
def execNtokLo (s : State) : Host.Outcome State Fault Refusal :=
  .next (if s.resetN then s.captureToken else s)

/-- REGISTER_WRITE (R161). -/
def execRegisterWrite (address : BitVec 16) (value : Word) (s : State) : Host.Outcome State Fault Refusal :=
  .next (if s.resetN then s.writeRegister address value else s)

/-- BREAK_RECORD (R51). -/
def execBreakRecord (s : State) : Host.Outcome State Fault Refusal :=
  .next (s.managementTurn .breakRecord (fun c => onHandle c breakSlot))

/-- INSPECT_RECORD (R63). -/
def execInspectRecord (s : State) : Host.Outcome State Fault Refusal :=
  .next (s.managementTurn .inspectRecord (fun c => onHandle c inspectSlot))

/-- CLEAR_QUARANTINE (R156). -/
def execClearQuarantine (s : State) : Host.Outcome State Fault Refusal :=
  .next (s.managementTurn .clearQuarantine (fun c => onHandle c clearSlot))

/-- RESET_DIRECTORY (R18). -/
def execResetDirectory (s : State) : Host.Outcome State Fault Refusal :=
  .next (s.managementTurn .resetDirectory (fun _ => State.resetDirectory))

end Sys2Proof.Machine
end

