-- ==== Sys2Proof/Machine/Queries.lean ====
section
/-! DEFINITION. The queries (Chapter 3): LOOKUP and LIST. -/

namespace Sys2Proof.Machine

/-- A holder as FOUND reports it (R59). -/
def State.foundHolder (s : State) (i : Nat) : Option (AgentId × Token) :=
  match s.member i with
  | some m => some (m.agent, m.token)
  | none => none

/-- A waiter as FOUND reports it (R59). -/
def State.foundWaiter (s : State) (i : Nat) : Option (AgentId × Mode) :=
  match s.member i with
  | some m => some (m.agent, m.mode)
  | none => none

/-- The agent of the holder with the pending upgrade (R59). -/
def State.upgradeAgent (s : State) (r : Record) : Option AgentId :=
  match r.upgrade with
  | some i =>
    match s.member i with
    | some m => some m.agent
    | none => none
  | none => none

/-- The FOUND answer for record `h` (R59). -/
def foundResult (h : Nat) (r : Record) (s : State) : State × Result :=
  (s, .found h r.mode (r.holders.filterMap s.foundHolder) (r.waiters.filterMap s.foundWaiter) (s.upgradeAgent r))

/-- LOOKUP, past the checks at take (R59). -/
def lookupOp (q : Request) (s : State) : State × Result :=
  match q.body with
  | .lookup ns key =>
    match s.findName ns key with
    | none => (s, .absent)
    | some (h, r) => s.onRecord h r (foundResult h r)
  | _ => (s, .badRequest)

/-- The LISTED entry of a membership whose record has this name (R61). -/
def listedEntry (m : Membership) (ns : Byte) (key : Key) (quarantined : Bool) : ListedEntry :=
  { stamp := m.stamp, handle := m.handle, ns := ns, key := key, quarantined := quarantined, role := m.role,
    mode := m.mode, token := if m.role = .hold then m.token else 0, tag := m.tag, upgradePending := m.upgradePending,
    deadline := m.deadline.isSome }

/-- Read the selected memberships in stamp order, each with its slot, up to the first failure (R60). -/
def listEntries (s : State) : List (Nat × Membership) → List ListedEntry → State × Result ⊕ List ListedEntry
  | [], done => .inr done
  | (_, m) :: rest, done =>
    if m.checkOk then
      match s.slot m.handle with
      | some (.live r) =>
        if r.checkOk then listEntries s rest (done ++ [listedEntry m r.ns r.key false])
        else .inl (s.quarantine m.handle r, .recordFault m.handle)
      | some (.quarantined _ _) => listEntries s rest (done ++ [listedEntry m 0 0 true])
      | none => listEntries s rest (done ++ [listedEntry m 0 0 false])
    else .inl (s.memberFault, .halted)

/-- LIST, past the checks at take (R60, R61). -/
def listOp (a : AgentId) (q : Request) (s : State) : State × Result :=
  match q.body with
  | .list after =>
    let later := (s.holdings a).filter (fun e => decide (after < e.2.stamp))
    match listEntries s (later.take Config.listedSize) [] with
    | .inl failed => failed
    | .inr entries => (s, .listed entries (decide (Config.listedSize < later.length)))
  | _ => (s, .badRequest)

/-- LOOKUP. -/
def execLookup (a : AgentId) (s : State) : Host.Outcome State Fault Refusal :=
  .next (s.agentTurn a .lookup (fun q => State.directoryRequest a (lookupOp q)))

/-- LIST. -/
def execList (a : AgentId) (s : State) : Host.Outcome State Fault Refusal :=
  .next (s.agentTurn a .list (fun q => State.directoryRequest a (listOp a q)))

end Sys2Proof.Machine
end

