-- ==== Sys2Proof/Machine/Resets.lean ====
section
/-! DEFINITION. The RESET_N pin: POWER_ON_RESET and RESET_N_RETURNS_HIGH (R15, R170). -/

namespace Sys2Proof.Machine

/-- RESET_N falls: a transaction in progress is abandoned (R170). -/
def SpiPort.abandon : SpiPort → SpiPort
  | .released => .released
  | .transaction _ _ => .abandoned
  | .abandoned => .abandoned

/-- RESET_N is low: every block takes its power-on values, and a transaction in progress when the pin falls is abandoned,
while the level of MCS_N is the controller's. What the environment still has to do (the waiting commands
and the damage to come) is no state of the part and stays. -/
def State.powerOn (s : State) : State :=
  { State.reset with
    resetN := false
    spi := if s.resetN then s.spi.abandon else s.spi
    upsets := s.upsets
    pending := s.pending }

/-- POWER_ON_RESET (R15, R66, R76, R110, R115, R117, R148, R159, R170). -/
def execPowerOnReset (s : State) : Host.Outcome State Fault Refusal := .next s.powerOn

/-- RESET_N_RETURNS_HIGH: the part starts from its power-on values (R15, R170). -/
def execResetNReturnsHigh (s : State) : Host.Outcome State Fault Refusal := .next { s with resetN := true }

end Sys2Proof.Machine
end

