-- ==== Sys2Proof/Machine/Sweeps.lean ====
section
/-! DEFINITION. The operations that no agent sends: the expire-wait (Chapter 4), the teardown step and the cleanup step
(Chapter 6), and the falling due of deadlines. -/

namespace Sys2Proof.Machine

/-! ### DEADLINE_FALLS_DUE (R69) -/

/-- The entries at the head of the deadline list whose due time the timebase has reached. -/
def State.dueDeadlines (s : State) : List Deadline :=
  s.deadlines.list.takeWhile (fun e => reached s.clock.ms e.due)

/-- They leave the list and join the tail of the expiry queue, in list order (R69). -/
def State.fallDue (s : State) : State :=
  { s with deadlines :=
      { list := s.deadlines.list.dropWhile (fun e => reached s.clock.ms e.due)
        expiry := s.deadlines.expiry ++ s.dueDeadlines } }

/-! ### EXPIRE_WAIT (R70 to R73) -/

/-- The stamp check: the entry in use is no longer the wait or pending upgrade of the operation (R70, cases 2 to 5). -/
def State.staleExpiry (s : State) (e : Deadline) (m : Membership) : Bool :=
  decide (m.agent ≠ e.agent) || decide (m.stamp ≠ e.stamp) ||
    (decide (e.kind = .wait) && decide (m.role = .hold)) ||
    (decide (e.kind = .upgrade) && !m.upgradePending) ||
    s.isQuarantined m.handle

/-- What an expire-wait that passes the stamp check does (R71, R72). -/
def State.expire (e : Deadline) (m : Membership) (s : State) : State :=
  let s := match e.kind with
    | .wait => (s.removeWait m.handle e.index).notify m.agent (.waitExpired m.handle m.tag false)
    | .upgrade => (s.clearUpgrade m.handle e.index).notify m.agent (.waitExpired m.handle m.tag true)
  (s.count (.agent m.agent .waitExpiries)).grantPass m.handle

/-- The expire-wait operation `e` (R70, R73). -/
def State.expireWait (e : Deadline) (s : State) : State :=
  match s.member e.index with
  | none => s
  | some m =>
    if m.checkOk then
      if s.staleExpiry e m then s
      else
        match s.record m.handle with
        | none => s
        | some r =>
          match s.verify r with
          | .sound => s.expire e m
          | .recordFault => s.quarantine m.handle r
          | .memberFault => s.memberFault
    else s.memberFault

/-- The operation at the head of the expiry queue is removed when it is taken (R70). -/
def expireOp (s : State) : State :=
  match s.deadlines.expiry with
  | [] => s
  | e :: rest => State.expireWait e { s with deadlines := { s.deadlines with expiry := rest } }

/-! ### TEARDOWN_STEP (R100 to R104) -/

/-- Remove a membership of a LIVE record according to its role, and run the grant pass (R101). -/
def State.teardownMember (i : Nat) (m : Membership) (s : State) : State :=
  match m.role with
  | .hold => (s.removeHold m.handle i).grantPass m.handle
  | .wait => (s.removeWait m.handle i).grantPass m.handle

/-- One step of the TEARDOWN job of `a` (R100 to R104). -/
def State.teardownStep (a : AgentId) (s : State) : State :=
  match s.holdings a with
  | [] => s.dropJob.completeTeardown a
  | (i, m) :: _ =>
    if m.checkOk then
      match s.slot m.handle with
      | some (.live r) =>
        match s.verify r with
        | .sound => s.teardownMember i m
        | .recordFault => s.quarantine m.handle r
        | .memberFault => s.memberFault
      | some (.quarantined _ _) => s.freeDetached i m
      | none => s.freeDetached i m
    else s.memberFault

/-! ### CLEANUP_STEP (R106 to R108) -/

/-- The lowest-indexed entry in use that names slot `h` (R106). -/
def State.memberNaming (s : State) (h : Nat) : Option (Nat × Membership) :=
  s.dir.pool.find? (fun e => decide (e.2.handle = h))

/-- What a lost membership's agent is told (R106, Table 7-1). -/
def Membership.lost (m : Membership) : Notification :=
  match m.role with
  | .hold => .lostHold m.handle m.token
  | .wait => .lostWait m.handle m.tag

/-- One step of the CLEANUP job of slot `h` (R106 to R108). -/
def State.cleanupStep (h : Nat) (s : State) : State :=
  match s.memberNaming h with
  | none =>
    let s := s.dropJob
    match s.slot h with
    | some (.quarantined _ r) => s.putSlot h (.quarantined true r)
    | _ => s
  | some (i, m) =>
    if m.checkOk then
      let s := match (s.session m.agent).state with
        | .active | .suspect => s.notify m.agent m.lost
        | .retiring | .closed => s
      s.freeDetached i m
    else s.memberFault

/-! ### Meanings -/

/-- DEADLINE_FALLS_DUE (R69). -/
def execDeadlineFallsDue (s : State) : Host.Outcome State Fault Refusal :=
  .next (if s.resetN then s.fallDue else s)

/-- EXPIRE_WAIT (R70). -/
def execExpireWait (s : State) : Host.Outcome State Fault Refusal := .next (s.turn .expiry expireOp)

/-- TEARDOWN_STEP: the head job is a TEARDOWN job (R99, R100). -/
def execTeardownStep (s : State) : Host.Outcome State Fault Refusal :=
  .next (match s.sweep.head? with
    | some (.teardown a) => s.turn .sweep (State.teardownStep a)
    | _ => s)

/-- CLEANUP_STEP: the head job is a CLEANUP job (R99, R106). -/
def execCleanupStep (s : State) : Host.Outcome State Fault Refusal :=
  .next (match s.sweep.head? with
    | some (.cleanup h) => s.turn .sweep (State.cleanupStep h)
    | _ => s)

end Sys2Proof.Machine
end

