-- ==== Sys2Proof/Machine/Dispatch.lean ====
section
/-! DEFINITION. The meaning of every command: one arm per constructor of Instr. -/

namespace Sys2Proof.Machine

def exec (i : Instr) (s : State) : Host.Outcome State Fault Refusal :=
  match i with
  | .powerOnReset => Sys2Proof.Machine.execPowerOnReset s
  | .linkUp a => Sys2Proof.Machine.execLinkUp a s
  | .linkDown a => Sys2Proof.Machine.execLinkDown a s
  | .keepalive a frame => Sys2Proof.Machine.execKeepalive a frame s
  | .ack a frame => Sys2Proof.Machine.execAck a frame s
  | .request a frame => Sys2Proof.Machine.execRequest a frame s
  | .openSession a => Sys2Proof.Machine.execOpen a s
  | .resume a => Sys2Proof.Machine.execResume a s
  | .close a => Sys2Proof.Machine.execClose a s
  | .flush a => Sys2Proof.Machine.execFlush a s
  | .acquire a => Sys2Proof.Machine.execAcquire a s
  | .release a => Sys2Proof.Machine.execRelease a s
  | .downgrade a => Sys2Proof.Machine.execDowngrade a s
  | .upgrade a => Sys2Proof.Machine.execUpgrade a s
  | .cancel a => Sys2Proof.Machine.execCancel a s
  | .lookup a => Sys2Proof.Machine.execLookup a s
  | .list a => Sys2Proof.Machine.execList a s
  | .expireWait => Sys2Proof.Machine.execExpireWait s
  | .teardownStep => Sys2Proof.Machine.execTeardownStep s
  | .cleanupStep => Sys2Proof.Machine.execCleanupStep s
  | .graceTimerExpiry a => Sys2Proof.Machine.execGraceTimerExpiry a s
  | .lapseTimerExpiry a => Sys2Proof.Machine.execLapseTimerExpiry a s
  | .holdTimerExpiry a => Sys2Proof.Machine.execHoldTimerExpiry a s
  | .retransmitTimerExpiry a => Sys2Proof.Machine.execRetransmitTimerExpiry a s
  | .deadlineFallsDue => Sys2Proof.Machine.execDeadlineFallsDue s
  | .transmitFrame a => Sys2Proof.Machine.execTransmitFrame a s
  | .enableDirectory upper => Sys2Proof.Machine.execEnableDirectory upper s
  | .loadTokenFloor upper => Sys2Proof.Machine.execLoadTokenFloor upper s
  | .evictAgent upper => Sys2Proof.Machine.execEvictAgent upper s
  | .breakRecord => Sys2Proof.Machine.execBreakRecord s
  | .inspectRecord => Sys2Proof.Machine.execInspectRecord s
  | .clearQuarantine => Sys2Proof.Machine.execClearQuarantine s
  | .resetDirectory => Sys2Proof.Machine.execResetDirectory s
  | .badCommand value => Sys2Proof.Machine.execBadCommand value s
  | .configurationWrite r value => Sys2Proof.Machine.execConfigurationWrite r value s
  | .faultSummaryWrite value => Sys2Proof.Machine.execFaultSummaryWrite value s
  | .faultEnableWrite value => Sys2Proof.Machine.execFaultEnableWrite value s
  | .statisticWrite r value => Sys2Proof.Machine.execStatisticWrite r value s
  | .ntokLo => Sys2Proof.Machine.execNtokLo s
  | .registerWrite address value => Sys2Proof.Machine.execRegisterWrite address value s
  | .arbiterCommandIssue c upper => Sys2Proof.Machine.execArbiterCommandIssue c upper s
  | .lostCommandWrite value => Sys2Proof.Machine.execLostCommandWrite value s
  | .frameEnd a => Sys2Proof.Machine.execFrameEnd a s
  | .resetNReturnsHigh => Sys2Proof.Machine.execResetNReturnsHigh s

end Sys2Proof.Machine
end

