-- ==== Sys2Proof/Machine/Idle.lean ====
section
/-! DEFINITION. What the part does while no command waits: the timebases advance (R66, R117), unless an expiry of the
moment they show has not yet been carried out (log entry 2). -/

namespace Sys2Proof.Machine

/-- An expiry that the timebases have reached and that has not been carried out. -/
def State.expiryOutstanding (s : State) : Bool :=
  !s.dueDeadlines.isEmpty ||
    allAgents.any (fun a => s.graceExpires a || s.lapseExpires a || s.holdExpires a || s.retransmitExpires a)

/-- A microsecond passes; while RESET_N is low the timebases are held, and they wait for an outstanding expiry. -/
def State.idle (s : State) : State :=
  if s.resetN && !s.expiryOutstanding then { s with clock := s.clock.tick } else s

end Sys2Proof.Machine
end

