-- ==== Sys2Proof/Machine/Spi.lean ====
section
/-! DEFINITION. SPI transactions (R160): what the bits of one transaction ask of the register window, the commands they
amount to, what the edges of MCS_N and MSCK make of the port, and the level of MSDO. The table has no row for an edge, so
these are functions of the state beside the commands (log entry 7). -/

namespace Sys2Proof.Machine

/-- A number from its bits, most significant bit first. -/
def bitsToNat (bits : List Bool) : Nat := bits.foldl (fun n b => 2 * n + b.toNat) 0

/-- The `n` low bits of a number, most significant bit first. -/
def natToBits : Nat → Nat → List Bool
  | 0, _ => []
  | n + 1, v => v.testBit n :: natToBits n v

/-- Command bytes (R160). -/
def spiReadByte : Byte := 0xA1
def spiWriteByte : Byte := 0xA2

/-- The command byte of the bits sampled on MSDI. -/
def spiByte (bits : List Bool) : Byte := BitVec.ofNat 8 (bitsToNat (bits.take 8))

/-- The address sent. -/
def spiAddress (bits : List Bool) : BitVec 16 := BitVec.ofNat 16 (bitsToNat ((bits.drop 8).take 16))

/-- The data sent. -/
def spiData (bits : List Bool) : Word := BitVec.ofNat 32 (bitsToNat ((bits.drop 24).take 32))

/-- The write that a transaction performs: one that ends before its last data bit performs none, and bits after the 56th
are ignored (R160). -/
def spiWrite (bits : List Bool) : Option (BitVec 16 × Word) :=
  if 56 ≤ bits.length ∧ spiByte bits = spiWriteByte then some (spiAddress bits, spiData bits) else none

/-- The address that a transaction captures: a read that has sampled its last address bit (R160). -/
def spiRead (bits : List Bool) : Option (BitVec 16) :=
  if 24 ≤ bits.length ∧ spiByte bits = spiReadByte then some (spiAddress bits) else none

/-- The bits of a write transaction. -/
def spiWriteBits (address : BitVec 16) (value : Word) : List Bool :=
  natToBits 8 spiWriteByte.toNat ++ natToBits 16 address.toNat ++ natToBits 32 value.toNat

/-- The bits of a read transaction, with whatever the controller drives during the data clocks. -/
def spiReadBits (address : BitVec 16) (data : List Bool) : List Bool :=
  natToBits 8 spiReadByte.toNat ++ natToBits 16 address.toNat ++ data

/-- The command that a write to CMD is, by the command state and the code (Table 10-3). -/
def State.commandOfWrite (s : State) (value : Word) : Instr :=
  let upper : BitVec 24 := value.extractLsb' 8 24
  if s.mgmt.busy.isSome then .lostCommandWrite value
  else
    match CommandName.ofCode (value.setWidth 8) with
    | none => .badCommand value
    | some .enableDirectory => .enableDirectory upper
    | some .loadTokenFloor => .loadTokenFloor upper
    | some .evictAgent => .evictAgent upper
    | some (.arbiter c) => .arbiterCommandIssue c upper

/-- The command that a register write is (R161). -/
def State.instrOfWrite (s : State) (address : BitVec 16) (value : Word) : Instr :=
  match configAt address with
  | some r => .configurationWrite r value
  | none =>
    match statAt address with
    | some r => .statisticWrite r value
    | none =>
      if address = faultSummaryAddress then .faultSummaryWrite value
      else if address = faultEnableAddress then .faultEnableWrite value
      else if address = commandAddress then s.commandOfWrite value
      else .registerWrite address value

/-! ### The port's pins -/

/-- MCS_N falls: a transaction begins at its command byte (R160). -/
def State.spiSelect (s : State) : State := s.putSpi (.transaction [] 0)

/-- MCS_N rises: the transaction ends, and nothing is kept of it (R160). -/
def State.spiRelease (s : State) : State := s.putSpi .released

/-- A rising edge of MSCK samples `b` on MSDI; at its last address bit a read captures the addressed register (R160).
Clocks after the 56th are ignored (R160), and so is every clock while RESET_N is low or after an abandoned transaction
(R170). -/
def State.spiSample (b : Bool) (s : State) : State :=
  match s.spi with
  | .transaction bits captured =>
    if s.resetN && decide (bits.length < 56) then
      let sampled := bits ++ [b]
      let captured :=
        match if sampled.length = 24 then spiRead sampled else none with
        | some address => s.readRegister address
        | none => captured
      s.putSpi (.transaction sampled captured)
    else s
  | .released => s
  | .abandoned => s

/-- The command that the transaction in progress amounts to so far: from its last data bit on a write is the command of its
access (R161), and from its last address bit on a read of the low half of next token is the capture (R162). Any other read
is no command, a write that has not sampled its last data bit is none (R160), nor is anything while RESET_N is low or after
an abandoned transaction (R170). -/
def State.instrOfTransaction (s : State) : Option Instr :=
  match s.spi with
  | .transaction bits _ =>
    if s.resetN then
      match spiWrite bits with
      | some (address, value) => some (s.instrOfWrite address value)
      | none => if spiRead bits = some ntokLoAddress then some .ntokLo else none
    else none
  | .released => none
  | .abandoned => none

/-- The bit that a transaction puts on MSDO: of a read, after its last address bit, the captured value from its most
significant bit on, for 32 clocks, and otherwise 0 (R160). -/
def msdoBit (bits : List Bool) (captured : Word) : Bool :=
  (spiRead bits).isSome && decide (bits.length < 56) && captured.getLsbD (55 - bits.length)

/-- The level of MSDO; none is high impedance, which it has while MCS_N is high and while RESET_N is low (R160, R170). What
is left of an abandoned transaction reads 0 (log entry 21). -/
def State.msdo (s : State) : Option Bool :=
  if s.resetN then
    match s.spi with
    | .released => none
    | .transaction bits captured => some (msdoBit bits captured)
    | .abandoned => some false
  else none

end Sys2Proof.Machine
end

