-- ==== Sys2Proof/Safety.lean ====
section
/-! DEFINITION. What holds in every state that a run of the part reaches: the conditions that the statements about every
step keep. Each condition is decidable. -/

namespace Sys2Proof.Machine

/-! ### Capacities (R1, R10) -/

/-- Record slots are numbered 0 to 4095 and membership entries 0 to 8191, each listed at most once, in order. -/
def TablesCanonical (s : State) : Prop :=
  Table.wf Config.slotCount s.dir.slots = true ∧ Table.wf Config.poolSize s.dir.pool = true

/-! ### Ports (R134, R139, R141 to R143) -/

/-- The bounds of a port between two steps: its queues and its cache hold at most 16 entries each, the cache's tags are
distinct, no place is reserved and no tag is in execution, every queued request is well formed, and a DOWN link leaves
nothing queued or in transmission. -/
def PortOk (p : Port) : Prop :=
  p.inbound.length ≤ Config.inboundSize ∧ p.outbound.length ≤ Config.outboundSize ∧
    p.replay.length ≤ Config.replaySize ∧ (p.replay.map CacheEntry.tag).Nodup ∧ p.reserved = false ∧
    p.inExecution = none ∧ (∀ q ∈ p.inbound, Request.wf q = true) ∧
    (p.linkUp = false → p.inbound = [] ∧ p.outbound = [] ∧ p.digestPlace = none ∧ p.transmitting = none)

/-- Every port keeps its bounds and the engine is free. -/
def PortsOk (s : State) : Prop := (∀ a : AgentId, PortOk (s.port a)) ∧ s.arbiter.operation = none

/-! ### Sessions and moderators (Tables 5-1 and 7-2) -/

/-- A session context: the grace timer runs in ACTIVE only, the lapse timer in SUSPECT only, the close tag is present in
RETIRING with cause AGENT_CLOSE only, the causes are written where their states are entered, and the epoch is 0 only
before the first OPEN (R76, R77, R83, R89, R90). -/
def SessionOk (c : Session) : Prop :=
  (c.graceDue.isSome = true ↔ c.state = .active) ∧ (c.lapseDue.isSome = true ↔ c.state = .suspect) ∧
    (c.closeTag.isSome = true ↔ c.state = .retiring ∧ c.retireCause = some .agentClose) ∧
    (c.state = .active → c.suspectCause = none) ∧ (c.state = .suspect → c.suspectCause ≠ none) ∧
    (c.state = .active ∨ c.state = .suspect → c.retireCause = none) ∧
    (c.state = .retiring → c.retireCause ≠ none) ∧ (c.state ≠ .closed → c.epoch ≠ 0)

/-- The digest in flight holds 1 to 16 entries and carries the moderator's number and epoch (R112, R118). -/
def DigestOk (m : Moderator) : Prop :=
  ∀ d ∈ m.inFlight,
    1 ≤ d.entries.length ∧ d.entries.length ≤ Config.digestSize ∧ d.number = m.number ∧ d.epoch = m.epoch ∧
      d.retransmitted = false

/-- What the overflow mark says of the queue (R114). -/
def OverflowOk (m : Moderator) : Prop :=
  (m.overflow = .unreported → m.pending ≠ [] ∧ (m.state = .outstanding ∨ m.state = .stalled)) ∧
    (m.overflow = .reported → m.inFlight.map Digest.overflow = some true)

/-- What a moderator's state says of its queue (Table 7-2). -/
def ModeratorStateOk (m : Moderator) : Prop :=
  (m.state = .empty → m.pending = [] ∧ m.inFlight = none) ∧
    (m.state = .collecting → m.pending ≠ [] ∧ m.inFlight = none) ∧
    (m.state = .outstanding → m.inFlight ≠ none)

/-- A moderator of an agent whose session context is `c`: it accepts while the session is ACTIVE or SUSPECT and is
STALLED while it is SUSPECT (R115, R126, R128); its queue holds at most 64 entries (R112); its timers run in the states
of Table 7-2; its retransmit count is 0 to 7. -/
def ModeratorOk (c : Session) (m : Moderator) : Prop :=
  (m.accepting = true ↔ c.state = .active ∨ c.state = .suspect) ∧ (m.state = .stalled ↔ c.state = .suspect) ∧
    (m.accepting = true → m.epoch = c.epoch) ∧
    (m.accepting = false → m.state = .empty ∧ m.overflow = .clear) ∧
    ModeratorStateOk m ∧ DigestOk m ∧ OverflowOk m ∧ m.occupied ≤ Config.notificationSize ∧
    (m.holdDue.isSome = true → m.state = .collecting) ∧ (m.retransmitDue.isSome = true ↔ m.state = .outstanding) ∧
    m.retransmitCount ≤ 7

/-- TEARDOWN jobs stand on the sweep queue exactly for the RETIRING sessions, one for each (R96). -/
def TeardownJobsOk (s : State) : Prop :=
  ∀ a : AgentId, s.sweep.count (.teardown a) = if (s.session a).state = .retiring then 1 else 0

/-- Every configuration value lies in its range (Table 10-2, R163). -/
def ConfigOk (c : ConfigValues) : Prop :=
  configInRange .grace c.grace = true ∧ configInRange .lapse c.lapse = true ∧
    configInRange .countThreshold c.countThreshold = true ∧ configInRange .holdTime c.holdTime = true ∧
    configInRange .retransmitInterval c.retransmitInterval = true ∧
    configInRange .retransmitLimit c.retransmitLimit = true ∧
    ∀ a : AgentId, configInRange (.membershipQuota a) (c.get (.membershipQuota a)) = true ∧
      configInRange (.waitQuota a) (c.get (.waitQuota a)) = true

/-- Sessions, moderators and TEARDOWN jobs agree. -/
def SessionsOk (s : State) : Prop :=
  (∀ a : AgentId, SessionOk (s.session a) ∧ ModeratorOk (s.session a) (s.moderator a)) ∧ TeardownJobsOk s ∧
    ConfigOk s.mgmt.config

/-! ### Directory state (R14, R17, R79, R155) -/

/-- A halt cause is recorded exactly while HALTED; while OFFLINE every slot and entry is free, the deadline lists and the
sweep queue are empty and every session is CLOSED. -/
def DirectoryStateOk (s : State) : Prop :=
  (s.dir.haltCause ≠ none ↔ s.dir.state = .halted) ∧
    (s.dir.state = .offline →
      s.dir.slots = [] ∧ s.dir.pool = [] ∧ s.deadlines.list = [] ∧ s.deadlines.expiry = [] ∧ s.sweep = [] ∧
        ∀ a : AgentId, (s.session a).state = .closed)

/-! ### Cleanup jobs (R96, R98) -/

/-- The slot of a CLEANUP job is QUARANTINED with the mark cleanup pending. -/
def CleanupJobOk (s : State) (j : SweepJob) : Prop :=
  match j with
  | .teardown _ => True
  | .cleanup h =>
    match s.slot h with
    | some (.quarantined cleaned _) => cleaned = false
    | _ => False

/-- At most eight CLEANUP jobs, at most one for each slot, each for a slot whose cleanup is pending. -/
def CleanupJobsOk (s : State) : Prop :=
  s.cleanupCount ≤ Config.cleanupJobs ∧ (∀ j ∈ s.sweep, CleanupJobOk s j) ∧
    (s.sweep.filter (fun j => match j with | .cleanup _ => true | .teardown _ => false)).Nodup

/-! ### Deadlines (R65, R66) -/

/-- At most one entry for any pool index, and the deadline list in the order of the time remaining, which never exceeds
65536 ms. -/
def DeadlinesOk (s : State) : Prop :=
  ((s.deadlines.list ++ s.deadlines.expiry).map Deadline.index).Nodup ∧
    (∀ e ∈ s.deadlines.list, remaining s.clock.ms e.due ≤ 65536) ∧
    s.deadlines.list.Pairwise (fun x y => remaining s.clock.ms x.due ≤ remaining s.clock.ms y.due)

/-! ### Records and memberships (R2 to R6, R10, R13, R54 to R56, R82) -/

/-- The holder at pool index `i` of record `r` in slot `h` (R3, R4, R6). -/
def HolderOk (s : State) (h : Nat) (r : Record) (i : Nat) : Prop :=
  match s.member i with
  | none => False
  | some m =>
    m.handle = h ∧ m.role = .hold ∧ m.mode = r.mode ∧ (m.upgradePending = true ↔ r.upgrade = some i)

/-- The waiter at pool index `i` of the record in slot `h` (R3, R5). -/
def WaiterOk (s : State) (h : Nat) (i : Nat) : Prop :=
  match s.member i with
  | none => False
  | some m => m.handle = h ∧ m.role = .wait

/-- A LIVE record in slot `h` (R4, R5, R6). A grant pass leaves a sole holder's upgrade pending only when the sequence is
exhausted (R45). -/
def RecordOk (s : State) (h : Nat) (r : Record) : Prop :=
  (∀ i ∈ r.holders, HolderOk s h r i) ∧ (∀ i ∈ r.waiters, WaiterOk s h i) ∧
    (r.holders ++ r.waiters).Nodup ∧ ((r.holders ++ r.waiters).filterMap (fun i => (s.member i).map Membership.agent)).Nodup ∧
    (r.mode = .exclusive → r.holders.length ≤ 1) ∧ r.waiters.length ≤ Config.maxWaiters ∧
    (∀ i ∈ r.upgrade, i ∈ r.holders ∧ r.mode = .shared ∧ (r.holders = [i] → s.dir.nextToken = 0)) ∧
    (r.holders = [] → r.waiters ≠ [] ∧ s.dir.nextToken = 0)

/-- A slot's content is in order; that of a QUARANTINED slot is not read (R9). -/
def SlotOk (s : State) (e : Nat × Slot) : Prop :=
  match e.2 with
  | .live r => RecordOk s e.1 r
  | .quarantined _ _ => True

/-- A membership in use refers to a LIVE slot on whose lists it stands, or to a slot whose cleanup is pending (R10). -/
def ReferenceOk (s : State) (i : Nat) (m : Membership) : Prop :=
  match s.slot m.handle with
  | none => False
  | some (.live r) => i ∈ r.holders ++ r.waiters
  | some (.quarantined cleaned _) => cleaned = false

/-- The fields of a membership in use agree with its role, and its session is not CLOSED (Table 1-4, R54, R55, R82). -/
def MemberOk (s : State) (e : Nat × Membership) : Prop :=
  ReferenceOk s e.1 e.2 ∧ (e.2.role = .wait → e.2.token = 0 ∧ e.2.upgradePending = false ∧ e.2.noticed = false) ∧
    (e.2.role = .hold → e.2.token ≠ 0) ∧ (e.2.upgradePending = true → e.2.mode = .shared) ∧
    (e.2.deadline ≠ none → e.2.role = .wait ∨ e.2.upgradePending = true) ∧ (s.session e.2.agent).state ≠ .closed ∧
    e.2.stamp ≠ 0 ∧ ((s.counts e.2.agent).nextStamp ≠ 0 → e.2.stamp < (s.counts e.2.agent).nextStamp)

/-- An agent's counts are the numbers of its memberships, and their stamps differ (R10, R13, R55, R56). -/
def CountsOk (s : State) (a : AgentId) : Prop :=
  (s.counts a).holds = s.dir.pool.countP (fun e => decide (e.2.agent = a ∧ e.2.role = .hold)) ∧
    (s.counts a).waits = s.dir.pool.countP (fun e => decide (e.2.agent = a ∧ e.2.role = .wait)) ∧
    (s.counts a).upgrades = s.dir.pool.countP (fun e => decide (e.2.agent = a ∧ e.2.upgradePending = true)) ∧
    ((s.dir.pool.filter (fun e => decide (e.2.agent = a))).map (fun e => e.2.stamp)).Nodup

/-- No two LIVE slots have one name (R2). -/
def NamesOk (s : State) : Prop :=
  (s.dir.slots.filterMap (fun e =>
    match e.2 with
    | .live r => some (r.ns, r.key)
    | .quarantined _ _ => none)).Nodup

/-- Records, memberships and counts agree. -/
def MembershipsOk (s : State) : Prop :=
  TablesCanonical s ∧ NamesOk s ∧ (∀ e ∈ s.dir.slots, SlotOk s e) ∧ (∀ e ∈ s.dir.pool, MemberOk s e) ∧
    ∀ a : AgentId, CountsOk s a

/-! ### Fencing tokens (R24, R25) -/

/-- The tokens of the holds in the pool. -/
def State.heldTokens (s : State) : List Token :=
  s.dir.pool.filterMap (fun e => if e.2.role = .hold then some e.2.token else none)

/-- No two holds share a token, no token is 0, and every token was issued before next token. -/
def TokensOk (s : State) : Prop :=
  Table.wf Config.poolSize s.dir.pool = true ∧ s.heldTokens.Nodup ∧
    ∀ t ∈ s.heldTokens, t ≠ 0 ∧ (s.dir.nextToken ≠ 0 → t < s.dir.nextToken)

/-- How next token may change in a step other than power-on reset: an exhausted sequence stays exhausted, and another
one rises or becomes exhausted (R24, R25, R26). -/
def TokenRises (before after : Token) : Prop :=
  (before = 0 → after = 0) ∧ (before ≠ 0 → after = 0 ∨ before ≤ after)

/-! ### Session transitions (Figure 5-1) -/

/-- The arcs of Figure 5-1, with the stay in a state. -/
def sessionArc (before after : SessionState) : Bool :=
  match before, after with
  | .closed, .active => true
  | .active, .suspect => true
  | .suspect, .active => true
  | .active, .retiring => true
  | .suspect, .retiring => true
  | _, .closed => true
  | b, a => decide (b = a)

end Sys2Proof.Machine
end

