-- ==== Sys2Proof/Certificates/Slice0/Obligations.lean ====
section
/-! DEFINITION. The statements for the provers. Before them stand their words: what the spec expects of a step, written
as explicit updates of the state and apart from the model's own operations. -/

namespace Sys2Proof.Expect

open Sys2Proof.Machine

/-! ### Turns -/

/-- The turn is `a`'s, and `q` heads its inbound queue before `rest`. -/
def AgentTurn (s : State) (a : AgentId) (q : Request) (rest : List Request) : Prop :=
  s.resetN = true ∧ s.nextTurn = some (.agent a) ∧ (s.port a).inbound = q :: rest

/-- A directory request of `a` passes the checks at take (R23). -/
def Served (s : State) (a : AgentId) (q : Request) (rest : List Request) : Prop :=
  AgentTurn s a q rest ∧ (s.session a).state = .active ∧ s.dir.state = .online

/-- The command that takes a request of kind `k` of agent `a`. -/
def takes (k : ReqKind) (a : AgentId) : Instr :=
  match k with
  | .openSession => .openSession a
  | .resume => .resume a
  | .close => .close a
  | .flush => .flush a
  | .acquire => .acquire a
  | .release => .release a
  | .downgrade => .downgrade a
  | .upgrade => .upgrade a
  | .cancel => .cancel a
  | .lookup => .lookup a
  | .list => .list a

/-- The seven directory requests (R23). -/
def isDirectoryKind (k : ReqKind) : Bool :=
  match k with
  | .acquire | .release | .downgrade | .upgrade | .cancel | .lookup | .list => true
  | .openSession | .resume | .close | .flush => false

/-- Place of a requester in the cyclic order (R19). -/
def placeOf : Requester → Nat
  | .agent a => a.val
  | .expiry => 8
  | .sweep => 9
  | .management => 10

/-- How many places after the last one served a requester stands in the cyclic order (R19). -/
def turnDistance (last r : Requester) : Nat := (placeOf r + 10 - placeOf last) % 11

/-- The part when the engine has begun an operation of `r`: the damage of the moment is done (log entry 4). -/
def begun (r : Requester) (s : State) : State :=
  { s.sufferUpset with arbiter := { lastServed := r, operation := some r } }

/-- The part when `a`'s request `q` has been taken (R19, R21, R139, R147). -/
def taken (s : State) (a : AgentId) (q : Request) (rest : List Request) : State :=
  { begun (.agent a) s with
    ports := Per.put s.ports a { s.port a with inbound := rest, reserved := true, inExecution := some q.tag }
    mgmt := s.mgmt.putStat (.agent a .requestsTaken) (s.mgmt.stat (.agent a .requestsTaken) + 1) }

/-- The part when the operation in progress has ended (R22). -/
def ended (s : State) : State := { s with arbiter := { s.arbiter with operation := none } }

/-- The response to `q` (R174). -/
def answer (q : Request) (r : Result) : Response :=
  { kind := q.body.kind.code, tag := q.tag, epoch := q.epoch, result := r }

/-- The response joins in its reserved place, or is discarded because the place is gone or the link is DOWN (R143). -/
def joined (p : Port) (r : Response) : List Response :=
  if p.reserved ∧ p.linkUp then p.outbound ++ [r] else p.outbound

/-- The end of `a`'s turn with a response that does not enter the replay cache (R142, R143). -/
def refused (a : AgentId) (q : Request) (r : Result) (s : State) : State :=
  ended
    { s with
      ports := Per.put s.ports a
        { s.port a with outbound := joined (s.port a) (answer q r), reserved := false, inExecution := none } }

/-- The target of a request (R138). -/
def targetOf : RequestBody → Target
  | .acquire ns _ _ _ _ _ key => .name ns key
  | .lookup ns key => .name ns key
  | .release h _ => .handle h
  | .downgrade h _ => .handle h
  | .upgrade h _ _ _ => .handle h
  | .cancel h => .handle h
  | .list after => .stamp after
  | _ => .none

/-- The end of `a`'s turn with the response of an executed request, which enters the replay cache while the session is
ACTIVE or SUSPECT (R142). -/
def executed (a : AgentId) (q : Request) (r : Result) (s : State) : State :=
  ended
    { s with
      ports := Per.put s.ports a
        { s.port a with
          outbound := joined (s.port a) (answer q r)
          replay :=
            if (s.session a).state = .active ∨ (s.session a).state = .suspect then
              enterCache { tag := q.tag, kind := q.body.kind, target := targetOf q.body, result := r } (s.port a).replay
            else (s.port a).replay
          reserved := false
          inExecution := none } }

/-- The end of `a`'s turn without a response (R21). -/
def unanswered (a : AgentId) (s : State) : State :=
  ended { s with ports := Per.put s.ports a { s.port a with reserved := false, inExecution := none } }

/-! ### Statistics and flags -/

/-- A statistic rises by one and wraps (R171). -/
def counted (r : StatReg) (s : State) : State := { s with mgmt := s.mgmt.putStat r (s.mgmt.stat r + 1) }

/-- A fault flag, by its bit in FLTSUM, is 1 (R157, Table 11-10). -/
def flagged (bit : Nat) (s : State) : State :=
  { s with mgmt := { s.mgmt with faults := s.mgmt.faults ||| (1#5 <<< bit) } }

/-! ### Free places -/

/-- `i` is the lowest free index below `capacity` (R7, R11). -/
def LowestFree {α : Type} (t : Table α) (capacity i : Nat) : Prop :=
  i < capacity ∧ Table.get t i = none ∧ ∀ j, j < i → Table.get t j ≠ none

/-- No index below `capacity` is free. -/
def Full {α : Type} (t : Table α) (capacity : Nat) : Prop := ∀ j, j < capacity → Table.get t j ≠ none

/-- The first check of every admission applies (R32, R34, R36, R55). -/
def MembershipQuotaApplies (s : State) (a : AgentId) : Prop :=
  (Per.get s.mgmt.config.membershipQuota a).toNat ≤ (s.counts a).holds + (s.counts a).waits ∨
    (s.counts a).nextStamp = 0

/-- The wait quota applies (R36, R41, R56). -/
def WaitQuotaApplies (s : State) (a : AgentId) : Prop :=
  (Per.get s.mgmt.config.waitQuota a).toNat ≤ (s.counts a).waits + (s.counts a).upgrades

/-! ### Check failures -/

/-- The directory has gone to HALTED (R17, R153, R154). -/
def halted (cause : HaltCause) (s : State) : State :=
  flagged 1 { s with dir := { s.dir with state := .halted, haltCause := some cause } }

/-- The job is a CLEANUP job. -/
def isCleanup : SweepJob → Bool
  | .cleanup _ => true
  | .teardown _ => false

/-- Slot `h`, with content `r`, has been quarantined: with a CLEANUP job while fewer than eight are pending, and with a halt
otherwise (R98, R151, R154). -/
def quarantined (h : Nat) (r : Record) (s : State) : State :=
  let t := flagged 0 (counted .quarantines
    { s with dir := { s.dir with slots := Table.put s.dir.slots h (.quarantined false r) } })
  if s.sweep.countP isCleanup < 8 then { t with sweep := s.sweep ++ [.cleanup h] } else halted .cleanupBacklog t

/-! ### Memberships -/

/-- A membership as an ACQUIRE makes it, with the agent's next stamp (R7, R34, R36). -/
def made (s : State) (a : AgentId) (h : Nat) (role : Role) (mode : Mode) (token : Token) (tag : Tag)
    (notice prompt : Bool) : Membership :=
  { agent := a, handle := h, role := role, mode := mode, token := token, tag := tag
    stamp := (s.counts a).nextStamp, deadline := none, upgradePending := false, notice := notice, noticed := false
    prompt := prompt, checkOk := true }

/-- A HOLD of `a` on record `h` has been made at pool index `i` with the next token (R24, R13, R53). -/
def granted (a : AgentId) (h i : Nat) (mode : Mode) (tag : Tag) (notice : Bool) (slot : Slot) (s : State) : State :=
  counted (.agent a .grants)
    { s with dir :=
      { s.dir with
        slots := Table.put s.dir.slots h slot
        pool := Table.put s.dir.pool i (made s a h .hold mode s.dir.nextToken tag notice false)
        nextToken := s.dir.nextToken + 1
        counts := Per.put s.dir.counts a
          { s.counts a with holds := (s.counts a).holds + 1, nextStamp := (s.counts a).nextStamp + 1 } } }

/-- A record is written with its check code recomputed (R3). -/
def sealed (r : Record) : Slot := .live { r with checkOk := true }

/-- The record whose lists or fields an operation has changed is written (R3). -/
def wrote (h : Nat) (r : Record) (s : State) : State :=
  { s with dir := { s.dir with slots := Table.put s.dir.slots h (sealed r) } }

/-- A membership is written with its check code recomputed (R12). -/
def wroteMember (i : Nat) (m : Membership) (s : State) : State :=
  { s with dir := { s.dir with pool := Table.put s.dir.pool i { m with checkOk := true } } }

/-- An agent's counts are written (R13). -/
def wroteCounts (a : AgentId) (c : Counts) (s : State) : State :=
  { s with dir := { s.dir with counts := Per.put s.dir.counts a c } }

/-- A grant has taken the next token (R24). -/
def tokenTaken (s : State) : State := { s with dir := { s.dir with nextToken := s.dir.nextToken + 1 } }

/-- A membership entry is freed (R11). -/
def freed (i : Nat) (s : State) : State := { s with dir := { s.dir with pool := Table.free s.dir.pool i } }

/-- No deadline entry of the list belongs to pool index `i` (R68). -/
def delisted (i : Nat) (s : State) : State :=
  { s with deadlines :=
    { s.deadlines with list := s.deadlines.list.filter (fun e => decide (e.index ≠ i)) } }

/-- The handle and the token by which a request names a hold (R27). -/
def holdNamed : RequestBody → Option (BitVec 16 × Token)
  | .release h t => some (h, t)
  | .downgrade h t => some (h, t)
  | .upgrade h t _ _ => some (h, t)
  | _ => none

/-! ### The grant pass -/

/-- The record has no holders, or is SHARED without a pending upgrade: it can take a waiter (R46). -/
def Takes (r : Record) : Prop := r.holders = [] ∨ (r.mode = .shared ∧ r.upgrade = none)

/-- The head waiter, with membership `m`, of a record that can take one is not granted: the grant sequence is exhausted
(R48), or it is EXCLUSIVE and stands behind holders (R46). -/
def Withheld (s : State) (r : Record) (m : Membership) : Prop :=
  s.dir.nextToken = 0 ∨ (r.holders ≠ [] ∧ m.mode = .exclusive)

/-- `Run h s g t`: the grant pass on the waiters of slot `h` goes from `s` to `t` and grants the waiters `g` in order,
before the contention checks. It looks at the head waiter again and again: one whose agent is RETIRING is removed (R44),
another is granted unless it is withheld (R46, R48), and the pass stops at the first that is withheld, at the end of the
queue, and at a record that takes none. -/
inductive Run (h : Nat) : State → List Nat → State → Prop
  | full (s : State) (r : Record) : s.record h = some r → ¬ Takes r → Run h s [] s
  | served (s : State) (r : Record) : s.record h = some r → r.waiters = [] → Run h s [] s
  | withheld (s : State) (r : Record) (i : Nat) (ws : List Nat) (m : Membership) :
    s.record h = some r → r.waiters = i :: ws → s.member i = some m → (s.session m.agent).state ≠ .retiring →
      Withheld s r m → Run h s [] s
  | removed (s t : State) (g : List Nat) (r : Record) (i : Nat) (ws : List Nat) (m : Membership) :
    s.record h = some r → Takes r → r.waiters = i :: ws → s.member i = some m →
      (s.session m.agent).state = .retiring → Run h (s.removeWait h i) g t → Run h s g t
  | granted (s t : State) (g : List Nat) (r : Record) (i : Nat) (ws : List Nat) (m : Membership) :
    s.record h = some r → Takes r → r.waiters = i :: ws → s.member i = some m →
      (s.session m.agent).state ≠ .retiring → ¬ Withheld s r m → Run h (s.grantWaiter h i) g t → Run h s (i :: g) t

/-- The end of a pass that granted the waiters `g`: each new hold is checked for contention, in grant order and behind the
whole run (R47), and a record without holders and waiters retires (R8, R49). -/
def passEnded (h : Nat) (g : List Nat) (s : State) : State :=
  let t := g.foldl (fun u i => u.contentionCheck h i) s
  match t.record h with
  | none => t
  | some r =>
    if r.holders = [] ∧ r.waiters = [] then { t with dir := { t.dir with slots := Table.free t.dir.slots h } } else t

/-! ### Reads -/

/-- The LIVE record that a request other than LIST concerns (R12). -/
def concerned (s : State) (q : Request) : Option (Nat × Record) :=
  match q.body with
  | .acquire ns _ _ _ _ _ key => s.findName ns key
  | .lookup ns key => s.findName ns key
  | .release h _ => (s.record h.toNat).map (fun r => (h.toNat, r))
  | .downgrade h _ => (s.record h.toNat).map (fun r => (h.toNat, r))
  | .upgrade h _ _ _ => (s.record h.toNat).map (fun r => (h.toNat, r))
  | .cancel h => (s.record h.toNat).map (fun r => (h.toNat, r))
  | _ => none

/-- The LISTED entry of a membership (Table 3-2). -/
def listedOf (s : State) (m : Membership) : ListedEntry :=
  let name : Byte × Key × Bool :=
    match s.slot m.handle with
    | some (.live r) => (r.ns, r.key, false)
    | some (.quarantined _ _) => (0, 0, true)
    | none => (0, 0, false)
  { stamp := m.stamp, handle := m.handle, ns := name.1, key := name.2.1, quarantined := name.2.2, role := m.role
    mode := m.mode, token := if m.role = .hold then m.token else 0, tag := m.tag
    upgradePending := m.upgradePending, deadline := m.deadline.isSome }

/-! ### Turns of the other requesters -/

/-- The turn is the expiry queue's, and `e` heads it before `rest`. -/
def ExpiryTurn (s : State) (e : Deadline) (rest : List Deadline) : Prop :=
  s.resetN = true ∧ s.nextTurn = some .expiry ∧ s.deadlines.expiry = e :: rest

/-- The turn is the Sweep Unit's, and `j` heads the sweep queue before `rest`. -/
def SweepTurn (s : State) (j : SweepJob) (rest : List SweepJob) : Prop :=
  s.resetN = true ∧ s.nextTurn = some .sweep ∧ s.sweep = j :: rest

/-- A timebase at `now` has reached a due time: it lies less than half the range behind (log entry 15). -/
def Reached (now d : Time) : Prop := (now - d).toNat < 2147483648

/-- An expiry of the moment has not been carried out: a deadline is due at the head of the list (R69), or a grace, lapse,
hold or retransmit timer that runs in its owner's state has reached its due time (R85, R89, R117, R123). -/
def ExpiryDue (s : State) : Prop :=
  (∃ e ∈ s.deadlines.list.head?, Reached s.clock.ms e.due) ∨
    ∃ a,
      ((s.session a).state = .active ∧ ∃ d ∈ (s.session a).graceDue, Reached s.clock.ms d) ∨
      ((s.session a).state = .suspect ∧ ∃ d ∈ (s.session a).lapseDue, Reached s.clock.ms d) ∨
      ((s.moderator a).state = .collecting ∧ ∃ d ∈ (s.moderator a).holdDue, Reached s.clock.us d) ∨
      ((s.moderator a).state = .outstanding ∧ ∃ d ∈ (s.moderator a).retransmitDue, Reached s.clock.ms d)

/-- The membership of an expire-wait is no longer the wait or the pending upgrade of the operation (R70). -/
def Stale (s : State) (e : Deadline) (m : Membership) : Prop :=
  m.agent ≠ e.agent ∨ m.stamp ≠ e.stamp ∨ (e.kind = .wait ∧ m.role = .hold) ∨
    (e.kind = .upgrade ∧ m.upgradePending = false) ∨ ∃ c r, s.slot m.handle = some (.quarantined c r)

/-- A membership `m` of a QUARANTINED slot, at pool index `i`, has been freed (R102, R106). -/
def detached (i : Nat) (m : Membership) (s : State) : State :=
  let c := s.counts m.agent
  wroteCounts m.agent
    { c with
      holds := if m.role = .hold then c.holds - 1 else c.holds
      waits := if m.role = .wait then c.waits - 1 else c.waits
      upgrades := if m.upgradePending then c.upgrades - 1 else c.upgrades }
    (freed i (if m.deadline.isSome then delisted i s else s))

/-- What a cleanup step tells the agent of membership `m` (Table 7-1). -/
def lostOf (h : Nat) (m : Membership) : Notification :=
  if m.role = .hold then .lostHold h m.token else .lostWait h m.tag

/-- The sweep queue without its head. -/
def jobDone (s : State) : State := { s with sweep := s.sweep.drop 1 }

/-- Teardown completion (R74, R93): CLOSED with the close tag absent, the deferred CLOSED if it can be made, and no deadline
entry that names the agent. -/
def closed (a : AgentId) (s : State) : State :=
  let c := s.session a
  let p := s.port a
  let answers : List Response :=
    match c.retireCause, c.closeTag with
    | some .agentClose, some t =>
      if p.linkUp = true ∧ p.outbound.length + (if p.reserved then 1 else 0) < 16 then
        [{ kind := 0x03, tag := t, epoch := c.epoch, result := .closed c.epoch }]
      else []
    | _, _ => []
  { s with
    sessions := Per.put s.sessions a { c with state := .closed, closeTag := none }
    ports := Per.put s.ports a { p with outbound := p.outbound ++ answers }
    deadlines :=
      { list := s.deadlines.list.filter (fun e => decide (e.agent ≠ a))
        expiry := s.deadlines.expiry.filter (fun e => decide (e.agent ≠ a)) } }

/-! ### Sessions -/

/-- The due time of a timer or deadline of `d` started at `now` (R66, R94, R117, R123). -/
def due (now : Time) (d : BitVec 32) : Time := now + d + 1

/-- A session context is written. -/
def wroteSession (a : AgentId) (c : Session) (s : State) : State :=
  { s with sessions := Per.put s.sessions a c }

/-- The grace timer of `a` is started or restarted (R83, R94). -/
def graced (a : AgentId) (s : State) : State :=
  wroteSession a { s.session a with graceDue := some (due s.clock.ms s.mgmt.config.grace) } s

/-- The report of an accepted frame of `a` that carries `epoch` (R83, R136). -/
def heard (a : AgentId) (epoch : Epoch) (s : State) : State :=
  if (s.session a).state = .active ∧ epoch = (s.session a).epoch then graced a s else s

/-- Entry into SUSPECT, with the moderator stalled (R86, R126). -/
def suspected (a : AgentId) (cause : SuspectCause) (s : State) : State :=
  { s with
    sessions := Per.put s.sessions a
      { s.session a with
        state := .suspect, suspectCause := some cause, graceDue := none
        lapseDue := some (due s.clock.ms s.mgmt.config.lapse) }
    moderators := Per.put s.moderators a
      { s.moderator a with state := .stalled, holdDue := none, retransmitDue := none } }

/-- Entry into RETIRING (R92, R97, R128, R144). -/
def retired (a : AgentId) (cause : RetireCause) (tag : Option Tag) (s : State) : State :=
  { s with
    sessions := Per.put s.sessions a
      { s.session a with
        state := .retiring, retireCause := some cause, graceDue := none, lapseDue := none, closeTag := tag }
    ports := Per.put s.ports a { s.port a with replay := [], digestPlace := none }
    moderators := Per.put s.moderators a
      { s.moderator a with
        pending := [], inFlight := none, overflow := .clear, holdDue := none, retransmitDue := none
        retransmitCount := 0, state := .empty, accepting := false }
    sweep := s.sweep ++ [.teardown a] }

/-- Opening the session of `a` (R77, R80, R125). -/
def opened (a : AgentId) (s : State) : State :=
  let e : Epoch := if (s.session a).epoch = 65535 then 1 else (s.session a).epoch + 1
  { s with
    sessions := Per.put s.sessions a
      { s.session a with
        state := .active, epoch := e, suspectCause := none, retireCause := none, lapseDue := none
        graceDue := some (due s.clock.ms s.mgmt.config.grace) }
    dir := { s.dir with counts := Per.put s.dir.counts a { s.counts a with nextStamp := 1 } }
    moderators := Per.put s.moderators a
      { s.moderator a with
        state := .empty, accepting := true, epoch := e, number := 0, retransmitCount := 0, overflow := .clear
        holdDue := none, retransmitDue := none }
    ports := Per.put s.ports a { s.port a with replay := [] } }

/-! ### Digests -/

/-- The moderator hands its port a digest (R144). -/
def handed (a : AgentId) (d : Digest) (s : State) : State :=
  if (s.port a).linkUp then { s with ports := Per.put s.ports a { s.port a with digestPlace := some d } } else s

/-- The digest that an emission makes (R118). -/
def digestOf (m : Moderator) : Digest :=
  { number := m.number, epoch := m.epoch, retransmitted := false, overflow := decide (m.overflow = .unreported)
    entries := m.pending.take 16 }

/-- The emission of a digest by `a`'s moderator (R118). -/
def emitted (a : AgentId) (s : State) : State :=
  let m := s.moderator a
  handed a (digestOf m)
    (counted (.agent a .digestsSent)
      { s with
        moderators := Per.put s.moderators a
          { m with
            pending := m.pending.drop 16
            inFlight := some (digestOf m)
            overflow := if m.overflow = .unreported then .reported else m.overflow
            state := .outstanding
            holdDue := none
            retransmitCount := 0
            retransmitDue := some (due s.clock.ms s.mgmt.config.retransmitInterval) } })

/-- A GRANTED notification with its prompt flag set (R111). -/
def prompted : Notification → Bool
  | .granted _ _ _ _ _ prompt => prompt
  | _ => false

/-- The emission condition (R116). -/
def EmissionDue (c : ConfigValues) (m : Moderator) : Prop :=
  (c.countThreshold ≠ 0 ∧ c.countThreshold.toNat ≤ m.pending.length) ∨
    (∃ n ∈ m.pending, prompted n = true) ∨ m.overflow = .unreported ∨
    (c.countThreshold = 0 ∧ c.holdTime = 0)

/-- A moderator is written. -/
def wroteModerator (a : AgentId) (m : Moderator) (s : State) : State :=
  { s with moderators := Per.put s.moderators a m }

/-- `a`'s moderator in COLLECTING with its hold timer started, before the check of the emission condition (R116,
R117). -/
def collecting (a : AgentId) (s : State) : State :=
  wroteModerator a
    { s.moderator a with
      state := .collecting
      holdDue := if s.mgmt.config.holdTime = 0 then none else some (due s.clock.us s.mgmt.config.holdTime) } s

/-- A resend of the digest in flight, which leaves the retransmit count at `n` (R123, R127). -/
def resent (a : AgentId) (d : Digest) (n : Nat) (s : State) : State :=
  handed a { d with retransmitted := true }
    (counted (.agent a .retransmissions)
      (wroteModerator a
        { s.moderator a with
          state := .outstanding
          retransmitCount := n
          retransmitDue := some (due s.clock.ms s.mgmt.config.retransmitInterval) } s))

/-- Places of the notification queue that are occupied (R112). -/
def places (m : Moderator) : Nat := m.pending.length + (m.inFlight.map (fun d => d.entries.length)).getD 0

/-- `t` is `s` after a check of the emission condition at `a`'s moderator (R116). -/
def Checked (a : AgentId) (s t : State) : Prop :=
  (EmissionDue s.mgmt.config (s.moderator a) → t = emitted a s) ∧
    (¬ EmissionDue s.mgmt.config (s.moderator a) → t = s)

/-! ### Arrival of requests -/

/-- The session judgment at arrival; a kind of none is one that names none of the eleven (R78, R140). -/
def judged (c : Session) (k : Option ReqKind) (epoch : Epoch) : Option Result :=
  if k = some .openSession then
    if c.state = .closed then none
    else if c.state = .retiring then some .teardownInProgress
    else some (.sessionExists c.epoch c.state)
  else if c.state = .closed then (if k = some .resume then some .sessionLost else some .noSession)
  else if epoch ≠ c.epoch then some .staleSession
  else if c.state = .active ∨ k = none then none
  else if c.state = .suspect then
    (if k = some .resume ∨ k = some .close ∨ k = some .flush then none else some .sessionSuspect)
  else (if k = some .resume then some .sessionLost else some .teardownInProgress)

/-- Entry `e` of the replay cache answers request `x` (R138). -/
def Replays (s : State) (a : AgentId) (x : RawRequest) (e : CacheEntry) : Prop :=
  (s.session a).state = .active ∧ e ∈ (s.port a).replay ∧ e.tag = x.tag ∧ ReqKind.ofCode x.kind = some e.kind ∧
    (x.epoch = (s.session a).epoch ∨ e.kind = .openSession) ∧ rawTarget e.kind x.body = some e.target

/-- A request with its tag stands in the inbound queue or is in execution (R139). -/
def Duplicate (s : State) (a : AgentId) (x : RawRequest) : Prop :=
  (∃ q ∈ (s.port a).inbound, q.tag = x.tag) ∨ (s.port a).inExecution = some x.tag

/-- The outbound list has a free place, a reserved one counted as occupied (R137, R143). -/
def Room (s : State) (a : AgentId) : Prop :=
  (s.port a).outbound.length + (if (s.port a).reserved then 1 else 0) < 16

/-- A response made at arrival joins the list (R137). -/
def appended (a : AgentId) (x : RawRequest) (r : Result) (s : State) : State :=
  { s with
    ports := Per.put s.ports a
      { s.port a with
        outbound := (s.port a).outbound ++ [{ kind := x.kind, tag := x.tag, epoch := x.epoch, result := r }] } }

/-- A response made at arrival joins the list, or for want of a place the request is dropped and counted (R137). -/
def answeredOnArrival (a : AgentId) (x : RawRequest) (r : Result) (s : State) : State :=
  if (s.port a).outbound.length + (if (s.port a).reserved then 1 else 0) < 16 then appended a x r s
  else counted (.agent a .framesDiscarded) s

/-- Bytes of the body of each kind (Table 11-3). -/
def bodyLength : ReqKind → Nat
  | .openSession => 0
  | .resume => 0
  | .close => 0
  | .flush => 0
  | .acquire => 14
  | .release => 10
  | .downgrade => 10
  | .upgrade => 14
  | .cancel => 2
  | .lookup => 10
  | .list => 4

/-- The namespace of a body lies above 15. -/
def BadNamespace (body : List Byte) : Prop := ∃ ns ∈ body.head?, 15 < ns.toNat

/-- The mode byte of a body names neither EXCLUSIVE nor SHARED. -/
def BadMode (body : List Byte) : Prop := ∃ m ∈ body[1]?, m ≠ 1 ∧ m ≠ 2

/-- The handle of a body lies above 4095. -/
def BadHandle (body : List Byte) : Prop := ∃ h1 ∈ body[0]?, ∃ h0 ∈ body[1]?, 4095 < h1.toNat * 256 + h0.toNat

/-- The form of a request is wrong (R140). -/
def Malformed (x : RawRequest) : Prop :=
  match ReqKind.ofCode x.kind with
  | none => True
  | some k =>
    x.body.length ≠ bodyLength k ∨ ((k = .acquire ∨ k = .lookup) ∧ BadNamespace x.body) ∨
      (k = .acquire ∧ BadMode x.body) ∨
      ((k = .release ∨ k = .downgrade ∨ k = .upgrade ∨ k = .cancel) ∧ BadHandle x.body)

/-- What an accepted ACK of digest `d` makes of the moderator before it goes on by its state (R122). -/
def acknowledged (d : Digest) (m : Moderator) : Moderator :=
  { m with
    inFlight := none
    overflow := if d.overflow = true ∧ m.overflow = .reported then .clear else m.overflow
    number := m.number + 1, retransmitDue := none, retransmitCount := 0 }

/-! ### Bytes of a frame (Chapter 11) -/

/-- A number in `n` bytes, the most significant first. -/
def bigEndian : Nat → Nat → List Byte
  | 0, _ => []
  | n + 1, v => BitVec.ofNat 8 (v / 256 ^ n) :: bigEndian n v

/-- One bit of the contents enters the CRC: the polynomial 0x1021, the most significant bit first (R135). -/
def crcStep (c : BitVec 16) (b : Bool) : BitVec 16 := if c.msb ^^ b then (c <<< 1) ^^^ 0x1021 else c <<< 1

/-- The CRC over the bits of the contents, from 0xFFFF (R135). -/
def crcOf (contents : List Byte) : BitVec 16 :=
  (contents.flatMap (fun x => (List.range 8).map (fun i => x.getMsbD i))).foldl crcStep 0xFFFF

/-- A frame of these contents ends with their CRC, the most significant byte first (R135). -/
def framed (contents : List Byte) : List Byte := contents ++ bigEndian 2 (crcOf contents).toNat

/-- Request kinds (Table 11-3). -/
def kindCode : ReqKind → Byte
  | .openSession => 0x01
  | .resume => 0x02
  | .close => 0x03
  | .flush => 0x04
  | .acquire => 0x10
  | .release => 0x11
  | .downgrade => 0x12
  | .upgrade => 0x13
  | .cancel => 0x14
  | .lookup => 0x20
  | .list => 0x21

/-- The mode byte (R173, R176). -/
def modeCode : Mode → Byte
  | .exclusive => 1
  | .shared => 2

/-- A byte with the bits `b0`, `b1`, `b2` and `b3` from bit 0 on. -/
def flagsByte (b0 b1 b2 b3 : Bool) : Byte :=
  BitVec.ofNat 8 (b0.toNat + 2 * b1.toNat + 4 * b2.toNat + 8 * b3.toNat)

/-- The body of each request, with reserved bytes 0 (Table 11-3, R173). -/
def requestBody : RequestBody → List Byte
  | .openSession => []
  | .resume => []
  | .close => []
  | .flush => []
  | .acquire ns mode tryNow prompt notice deadline key =>
    [ns, modeCode mode, flagsByte tryNow prompt notice false, 0] ++ bigEndian 2 deadline.toNat ++ bigEndian 8 key.toNat
  | .release h t => bigEndian 2 h.toNat ++ bigEndian 8 t.toNat
  | .downgrade h t => bigEndian 2 h.toNat ++ bigEndian 8 t.toNat
  | .upgrade h t prompt deadline =>
    bigEndian 2 h.toNat ++ bigEndian 8 t.toNat ++ [flagsByte false prompt false false, 0] ++ bigEndian 2 deadline.toNat
  | .cancel h => bigEndian 2 h.toNat
  | .lookup ns key => [ns, 0] ++ bigEndian 8 key.toNat
  | .list after => bigEndian 4 after.toNat

/-- The namespace or the handle that a request carries is in range (R140). -/
def InRange : RequestBody → Prop
  | .acquire ns _ _ _ _ _ _ => ns.toNat ≤ 15
  | .lookup ns _ => ns.toNat ≤ 15
  | .release h _ => h.toNat ≤ 4095
  | .downgrade h _ => h.toNat ≤ 4095
  | .upgrade h _ _ _ => h.toNat ≤ 4095
  | .cancel h => h.toNat ≤ 4095
  | _ => True

/-- Status codes (Table 11-9). -/
def statusCode : Result → Byte
  | .granted .. => 0x01
  | .queued _ => 0x02
  | .released _ => 0x03
  | .downgraded .. => 0x04
  | .cancelled _ => 0x05
  | .alreadyGranted .. => 0x06
  | .found .. => 0x07
  | .absent => 0x08
  | .listed .. => 0x09
  | .opened _ => 0x0A
  | .resumed _ => 0x0B
  | .closed _ => 0x0C
  | .flushed => 0x0D
  | .contended .. => 0x20
  | .alreadyHeld .. => 0x21
  | .alreadyWaiting _ => 0x22
  | .notHeld _ => 0x23
  | .notWaiting _ => 0x24
  | .staleToken _ => 0x25
  | .wrongMode _ => 0x26
  | .upgradeConflict _ => 0x27
  | .membershipQuota => 0x28
  | .waitQuota => 0x29
  | .poolFull => 0x2A
  | .directoryFull => 0x2B
  | .sequenceExhausted => 0x2C
  | .recordFault _ => 0x2D
  | .badRequest => 0x2E
  | .busy => 0x2F
  | .noSession => 0x30
  | .staleSession => 0x31
  | .sessionExists .. => 0x32
  | .sessionSuspect => 0x33
  | .sessionLost => 0x34
  | .teardownInProgress => 0x35
  | .offline => 0x36
  | .halted => 0x37

/-- An agent number on the link. -/
def agentCode (a : AgentId) : Byte := BitVec.ofNat 8 a.val

/-- An entry of LISTED (Table 11-5). -/
def listedBytes (e : ListedEntry) : List Byte :=
  bigEndian 4 e.stamp.toNat ++ bigEndian 2 e.handle ++
    [e.ns, flagsByte (decide (e.role = .wait)) e.quarantined e.upgradePending e.deadline, modeCode e.mode, 0] ++
    bigEndian 2 e.tag.toNat ++ bigEndian 8 e.key.toNat ++ bigEndian 8 e.token.toNat

/-- handle; mode; reserved; token (Table 11-6). -/
def holdBytes (h : Nat) (m : Mode) (t : Token) : List Byte := bigEndian 2 h ++ [modeCode m, 0] ++ bigEndian 8 t.toNat

/-- The body of each status (Table 11-6, R174). -/
def statusBody : Result → List Byte
  | .granted h m t => holdBytes h m t
  | .alreadyGranted h m t => holdBytes h m t
  | .alreadyHeld h m t => holdBytes h m t
  | .downgraded h t => holdBytes h .shared t
  | .queued h => bigEndian 2 h
  | .released h => bigEndian 2 h
  | .cancelled h => bigEndian 2 h
  | .alreadyWaiting h => bigEndian 2 h
  | .notHeld h => bigEndian 2 h
  | .notWaiting h => bigEndian 2 h
  | .staleToken h => bigEndian 2 h
  | .wrongMode h => bigEndian 2 h
  | .upgradeConflict h => bigEndian 2 h
  | .recordFault h => bigEndian 2 h
  | .contended h m holders => bigEndian 2 h ++ [modeCode m, BitVec.ofNat 8 holders]
  | .found h m holders waiters upgrade =>
    bigEndian 2 h ++
      [modeCode m, BitVec.ofNat 8 holders.length, BitVec.ofNat 8 waiters.length,
        (upgrade.map agentCode).getD 0xFF] ++
      holders.flatMap (fun x => [agentCode x.1, 0] ++ bigEndian 8 x.2.toNat) ++
      waiters.flatMap (fun x => [agentCode x.1, modeCode x.2])
  | .listed entries more =>
    [BitVec.ofNat 8 entries.length, BitVec.ofNat 8 more.toNat] ++ entries.flatMap listedBytes
  | .opened e => bigEndian 2 e.toNat
  | .resumed e => bigEndian 2 e.toNat
  | .closed e => bigEndian 2 e.toNat
  | .sessionExists e st =>
    bigEndian 2 e.toNat ++ [if st = .active then 1 else if st = .suspect then 2 else 0, 0]
  | _ => []

/-- Bytes of the whole response frame, from the Length column of Table 11-6. -/
def statusLength : Result → Nat
  | .granted .. => 21
  | .alreadyGranted .. => 21
  | .alreadyHeld .. => 21
  | .downgraded .. => 21
  | .queued _ => 11
  | .released _ => 11
  | .cancelled _ => 11
  | .alreadyWaiting _ => 11
  | .notHeld _ => 11
  | .notWaiting _ => 11
  | .staleToken _ => 11
  | .wrongMode _ => 11
  | .upgradeConflict _ => 11
  | .recordFault _ => 11
  | .contended .. => 13
  | .found _ _ holders waiters _ => 15 + 10 * holders.length + 2 * waiters.length
  | .listed entries _ => 11 + 28 * entries.length
  | .opened _ => 11
  | .resumed _ => 11
  | .closed _ => 11
  | .sessionExists .. => 13
  | _ => 9

/-- A digest entry: kind; flags upgrade and prompt; handle; tag; mode; role; token (Table 11-8). -/
def digestEntry (kind : Byte) (upgrade prompt : Bool) (h : Nat) (tag : Tag) (mode role : Byte) (token : Token) :
    List Byte :=
  [kind, flagsByte upgrade prompt false false] ++ bigEndian 2 h ++ bigEndian 2 tag.toNat ++ [mode, role] ++
    bigEndian 8 token.toNat

/-- The fields that each kind of notification fills, the others 0 (R175). -/
def notificationBytes : Notification → List Byte
  | .granted h m t tag upgrade prompt => digestEntry 1 upgrade prompt h tag (modeCode m) 0 t
  | .waitExpired h tag upgrade => digestEntry 2 upgrade false h tag 0 0 0
  | .contended h t wanted => digestEntry 3 false false h 0 (modeCode wanted) 0 t
  | .revoked h t => digestEntry 4 false false h 0 0 0 t
  | .lostHold h t => digestEntry 5 false false h 0 0 1 t
  | .lostWait h tag => digestEntry 5 false false h tag 0 2 0

/-! ### Registers (Tables 11-10 to 11-12, R176) -/

/-- A value in bits `hi` to `lo` of a register; its other bits are 0. -/
def inBits (hi lo value : Nat) : Word := BitVec.ofNat 32 (value % 2 ^ (hi + 1 - lo)) <<< lo

/-- Bit `lo` of a register; its other bits are 0. -/
def inBit (lo : Nat) (b : Bool) : Word := inBits lo lo b.toNat

def directoryField : DirectoryState → Nat
  | .offline => 0
  | .online => 1
  | .halted => 2

def haltField : Option HaltCause → Nat
  | none => 0
  | some .membershipFault => 1
  | some .cleanupBacklog => 2

def sessionField : SessionState → Nat
  | .closed => 0
  | .active => 1
  | .suspect => 2
  | .retiring => 3

def suspectField : Option SuspectCause → Nat
  | none => 0
  | some .quiet => 1
  | some .linkLost => 2
  | some .noAck => 3

def retireField : Option RetireCause → Nat
  | none => 0
  | some .agentClose => 1
  | some .lapsed => 2
  | some .evicted => 3

def moderatorField : ModeratorState → Nat
  | .empty => 0
  | .collecting => 1
  | .outstanding => 2
  | .stalled => 3

def overflowField : OverflowMark → Nat
  | .clear => 0
  | .unreported => 1
  | .reported => 2

/-- Kind and subject of the head job. -/
def headFields : List SweepJob → Nat × Nat
  | [] => (0, 0)
  | .teardown a :: _ => (1, a.val)
  | .cleanup h :: _ => (2, h)

def slotField : WindowSlot → Nat
  | .free => 0
  | .live => 1
  | .quarantined => 2

def modeField : Option Mode → Nat
  | none => 0
  | some .exclusive => 1
  | some .shared => 2

def outcomeField : CommandOutcome → Nat
  | .none => 0
  | .done => 1
  | .refused => 2

def reasonField : Option Reason → Nat
  | none => 0
  | some .badCommand => 1
  | some .notOffline => 2
  | some .sequenceExhausted => 3
  | some .belowFloor => 4
  | some .badAgent => 5
  | some .notOpen => 6
  | some .alreadyRetiring => 7
  | some .badHandle => 8
  | some .halted => 9
  | some .notLive => 10
  | some .recordFault => 11
  | some .membershipFault => 12
  | some .notQuarantined => 13
  | some .notCleaned => 14

/-- What the device registers other than the inspection window read (Table 11-10). -/
def DeviceReads (s : State) : Prop :=
  s.readRegister 0x0010 = inBits 1 0 (directoryField s.dir.state) ||| inBits 9 8 (haltField s.dir.haltCause) ∧
  s.readRegister 0x0014 = s.dir.nextToken.extractLsb' 0 32 ∧
  s.readRegister 0x0018 = s.mgmt.holding.extractLsb' 32 32 ∧
  s.readRegister 0x0020 = inBits 13 0 s.deadlines.list.length ||| inBits 29 16 s.deadlines.expiry.length ∧
  s.readRegister 0x0024 =
    inBits 3 0 (s.sweep.countP (fun j => !isCleanup j)) ||| inBits 7 4 (s.sweep.countP isCleanup) |||
      inBits 9 8 (headFields s.sweep).1 ||| inBits 27 16 (headFields s.sweep).2 ∧
  s.readRegister 0x0030 = s.mgmt.faults.setWidth 32 ∧ s.readRegister 0x0034 = s.mgmt.enables.setWidth 32 ∧
  s.readRegister 0x0038 = s.mgmt.quarantines ∧ s.readRegister 0x0040 = s.mgmt.config.grace ∧
  s.readRegister 0x0044 = s.mgmt.config.lapse ∧ s.readRegister 0x0048 = s.mgmt.config.countThreshold ∧
  s.readRegister 0x004C = s.mgmt.config.holdTime ∧ s.readRegister 0x0050 = s.mgmt.config.retransmitInterval ∧
  s.readRegister 0x0054 = s.mgmt.config.retransmitLimit ∧ s.readRegister 0x0060 = s.mgmt.arg0 ∧
  s.readRegister 0x0064 = s.mgmt.arg1 ∧ s.readRegister 0x0068 = 0 ∧
  s.readRegister 0x006C =
    inBits 7 0 s.mgmt.result.code.toNat ||| inBit 8 s.mgmt.busy.isSome |||
      inBits 13 12 (outcomeField s.mgmt.result.outcome) ||| inBits 19 16 (reasonField s.mgmt.result.reason) |||
      inBits 27 24 s.mgmt.result.value

/-- What the word at `offset` of a member entry reads (Table 11-12). -/
def memberWord (m : WindowMember) (offset : Nat) : Word :=
  if offset = 0x00 then
    inBits 12 0 m.index ||| inBits 18 16 m.agent.val ||| inBit 20 (decide (m.role = .wait)) |||
      inBits 23 22 (modeField (some m.mode)) ||| inBit 24 m.upgradePending ||| inBit 25 m.notice |||
      inBit 26 m.noticed ||| inBit 27 m.prompt ||| inBit 28 m.deadline.isSome
  else if offset = 0x04 then inBits 15 0 m.tag.toNat ||| inBits 31 16 (m.deadline.getD 0)
  else if offset = 0x08 then m.stamp
  else if offset = 0x0C then m.token.extractLsb' 0 32
  else if offset = 0x10 then m.token.extractLsb' 32 32
  else 0

/-- What the inspection window reads; member entries beyond the last read 0 (Tables 11-10 and 11-12, R176). -/
def WindowReads (s : State) (w : Window) : Prop :=
  s.readRegister 0x0080 =
    inBit 0 w.valid ||| inBits 2 1 (slotField w.slot) ||| inBit 3 w.cleaned ||| inBits 27 16 w.handle ∧
  s.readRegister 0x0084 =
    inBits 3 0 w.ns.toNat ||| inBits 5 4 (modeField w.mode) ||| inBits 11 8 w.holderCount |||
      inBits 15 12 w.waiterCount ||| inBit 16 w.upgradeMember.isSome ||| inBits 22 20 (w.upgradeMember.getD 0) ∧
  s.readRegister 0x0088 = w.key.extractLsb' 0 32 ∧ s.readRegister 0x008C = w.key.extractLsb' 32 32 ∧
  ∀ m offset, m < 8 → offset < 0x20 →
    s.readRegister (BitVec.ofNat 16 (0x00A0 + 0x20 * m + offset)) =
      match w.members[m]? with
      | some x => memberWord x offset
      | none => 0

/-- What the registers of agent `a` read (Table 11-11), where `reg` gives the word at an offset of its block. -/
def AgentReads (s : State) (a : AgentId) (reg : Nat → Word) : Prop :=
  reg 0x00 =
    inBits 1 0 (sessionField (s.session a).state) ||| inBits 5 4 (suspectField (s.session a).suspectCause) |||
      inBits 9 8 (retireField (s.session a).retireCause) ||| inBits 31 16 (s.session a).epoch.toNat ∧
  reg 0x04 = inBits 13 0 (s.counts a).holds ||| inBits 29 16 (s.counts a).waits ∧
  reg 0x08 = inBits 13 0 (s.counts a).upgrades ∧ reg 0x0C = (s.counts a).nextStamp ∧
  reg 0x10 =
    inBits 1 0 (moderatorField (s.moderator a).state) ||| inBit 2 (s.moderator a).accepting |||
      inBits 5 4 (overflowField (s.moderator a).overflow) ||| inBits 10 8 (s.moderator a).retransmitCount |||
      inBits 23 16 (s.moderator a).number.toNat ∧
  reg 0x14 =
    inBits 6 0 (s.moderator a).pending.length |||
      inBits 20 16 (((s.moderator a).inFlight.map (fun d => d.entries.length)).getD 0) ∧
  reg 0x18 =
    inBit 0 (s.port a).linkUp ||| inBits 12 8 (s.port a).inbound.length |||
      inBits 20 16 ((s.port a).outbound.length + (s.port a).reserved.toNat) ∧
  reg 0x20 = Per.get s.mgmt.config.membershipQuota a ∧ reg 0x24 = Per.get s.mgmt.config.waitQuota a ∧
  reg 0x40 = (Per.get s.mgmt.stats a).requestsTaken ∧ reg 0x44 = (Per.get s.mgmt.stats a).grants ∧
  reg 0x48 = (Per.get s.mgmt.stats a).waitsAdmitted ∧ reg 0x4C = (Per.get s.mgmt.stats a).waitExpiries ∧
  reg 0x50 = (Per.get s.mgmt.stats a).digestsSent ∧ reg 0x54 = (Per.get s.mgmt.stats a).retransmissions ∧
  reg 0x58 = (Per.get s.mgmt.stats a).acksIgnored ∧ reg 0x5C = (Per.get s.mgmt.stats a).framesDiscarded ∧
  reg 0x60 = (Per.get s.mgmt.stats a).replays ∧ reg 0x64 = (Per.get s.mgmt.stats a).linkDowns

/-- The statistics of an agent in register order (Table 11-11). -/
def statOrder : List AgentStat :=
  [.requestsTaken, .grants, .waitsAdmitted, .waitExpiries, .digestsSent, .retransmissions, .acksIgnored,
    .framesDiscarded, .replays, .linkDowns]

/-- The register map assigns the address (Tables 11-10 and 11-11); the member entries of the window apart. -/
def Assigned (n : Nat) : Prop :=
  n ∈ [0x10, 0x14, 0x18, 0x20, 0x24, 0x30, 0x34, 0x38, 0x40, 0x44, 0x48, 0x4C, 0x50, 0x54, 0x60, 0x64, 0x68, 0x6C,
      0x80, 0x84, 0x88, 0x8C] ∨
    (0xA0 ≤ n ∧ n < 0x1A0) ∨
    (0x200 ≤ n ∧ n < 0xA00 ∧
      n % 0x100 ∈ [0x00, 0x04, 0x08, 0x0C, 0x10, 0x14, 0x18, 0x20, 0x24, 0x40, 0x44, 0x48, 0x4C, 0x50, 0x54, 0x58,
        0x5C, 0x60, 0x64])

/-- The bits of a word of the management link, the most significant first (R160). -/
def wireBits {w : Nat} (x : BitVec w) : List Bool := (List.range w).map (fun i => x.getMsbD i)

/-! ### Management -/

/-- The turn is the Management Port's, with the command `c` BUSY. -/
def ManagementTurn (s : State) (c : IssuedCommand) : Prop :=
  s.resetN = true ∧ s.nextTurn = some .management ∧ s.mgmt.busy = some c

/-- The command ends DONE with a value (R165). -/
def done (value : Nat) (s : State) : State :=
  { s with mgmt :=
    { s.mgmt with
      busy := none
      result := { code := s.mgmt.result.code, outcome := .done, reason := none, value := value } } }

/-- The command ends REFUSED (R165). -/
def rejected (reason : Reason) (s : State) : State :=
  { s with mgmt :=
    { s.mgmt with
      busy := none
      result := { code := s.mgmt.result.code, outcome := .refused, reason := some reason, value := 0 } } }

/-- A code is issued: the result is new (R165). -/
def issued (code : Byte) (s : State) : State :=
  { s with mgmt := { s.mgmt with result := { code := code, outcome := .none, reason := none, value := 0 } } }

/-- Range of each configuration value (Table 10-2). -/
def range : ConfigReg → Nat × Nat
  | .membershipQuota _ => (0, 8192)
  | .waitQuota _ => (0, 1024)
  | .grace => (10, 60000)
  | .lapse => (10, 60000)
  | .countThreshold => (0, 16)
  | .holdTime => (0, 65535)
  | .retransmitInterval => (1, 1000)
  | .retransmitLimit => (1, 7)

/-- The command that carries out a BUSY command at its turn (R20). -/
def carriesOut : ArbiterCommand → Instr
  | .breakRecord => .breakRecord
  | .inspectRecord => .inspectRecord
  | .clearQuarantine => .clearQuarantine
  | .resetDirectory => .resetDirectory

/-- Codes of the four commands that wait for a turn (Table 11-10). -/
def codeOf : ArbiterCommand → Byte
  | .breakRecord => 0x10
  | .inspectRecord => 0x11
  | .clearQuarantine => 0x12
  | .resetDirectory => 0x1F

/-- The commands that are a write to CMD. -/
def commandWrites (upper : BitVec 24) (value : Word) (c : ArbiterCommand) : List Instr :=
  [.enableDirectory upper, .loadTokenFloor upper, .evictAgent upper, .arbiterCommandIssue c upper, .badCommand value,
    .lostCommandWrite value]

/-- The inspection window shows a slot and nothing else (R63). -/
def shownOnly (h : Nat) (slot : WindowSlot) (cleaned : Bool) : Window :=
  { valid := true, slot := slot, cleaned := cleaned, handle := h, ns := 0, key := 0, mode := none, holderCount := 0
    waiterCount := 0, upgradeMember := none, members := [] }

/-- A member entry of the window (R64). -/
def shownMember (s : State) (i : Nat) (m : Membership) : WindowMember :=
  { index := i, agent := m.agent, role := m.role, mode := m.mode, token := m.token, tag := m.tag, stamp := m.stamp
    upgradePending := m.upgradePending, notice := m.notice, noticed := m.noticed, prompt := m.prompt
    deadline :=
      if m.deadline.isSome then
        some (((s.deadlines.list.find? (fun e => decide (e.index = i))).map
          (fun e => (e.due - s.clock.ms).toNat - 1)).getD 0)
      else none }

/-- The inspection window shows the sound LIVE record of slot `h` (R64). -/
def shown (s : State) (h : Nat) (r : Record) : Window :=
  { valid := true, slot := .live, cleaned := false, handle := h, ns := r.ns, key := r.key, mode := some r.mode
    holderCount := r.holders.length, waiterCount := r.waiters.length
    upgradeMember := r.upgrade.map (fun i => r.holders.idxOf i)
    members := (r.holders ++ r.waiters).filterMap (fun i => (s.member i).map (shownMember s i)) }

/-- The window is written. -/
def windowed (w : Window) (s : State) : State := { s with mgmt := { s.mgmt with window := w } }

end Sys2Proof.Expect

open Sys2Proof Sys2Proof.Machine Sys2Proof.Expect

/-! ### The machine -/

/-- A step carries out the command at the front of the queue on the state with the queue's rest. -/
def Obligations.StepRunsTheFrontCommand : Prop :=
  ∀ (c : Instr) (rest : List Instr) (s : State),
    s.pending = c :: rest → step s = exec c { s with pending := rest }

/-- With no command waiting a microsecond passes, and every thousandth is a millisecond, unless RESET_N is low or an
expiry of this moment is still to be carried out, of a deadline or of one of the four timers (the model's choice, log
entries 2 and 3). -/
def Obligations.EmptyQueueLetsTimePass : Prop :=
  ∀ s : State, s.pending = [] →
    (s.resetN = true → ¬ ExpiryDue s →
      step s = .next { s with clock :=
        if s.clock.phase < 999 then { s.clock with us := s.clock.us + 1, phase := s.clock.phase + 1 }
        else { ms := s.clock.ms + 1, us := s.clock.us + 1, phase := 0 } }) ∧
    (s.resetN = false ∨ ExpiryDue s → step s = .next s)

/-- What POWER_ON_RESET makes of every block, in every state: the directory and the arbiter (R15), the Deadline Unit and the
timebases (R65, R66, R75, R117), the sessions (R76, R77), the sweep queue (R96, R110), the moderators (R115), the ports
(R148), the Management Port with ALERT_N (R159, R163, R170) and a transaction in progress (R170). Until RESET_N returns high
no command changes any of it: R15 and R170 say so of the directory and of the port, and for the other blocks it is the
model's reading (log entry 16). RESET_N_RETURNS_HIGH changes the pin alone, and the part starts from State.reset, whose
phase of the timebases (log entry 3) and level of MCS_N (log entry 5) are the model's choice. -/
def Obligations.PowerOnResetHoldsUntilResetReturnsHigh : Prop :=
  (∀ s : State, ∃ t, exec .powerOnReset s = .next t ∧ t.resetN = false ∧
    t.dir.state = .offline ∧ t.dir.haltCause = none ∧ (∀ h, t.slot h = none) ∧ (∀ i, t.member i = none) ∧
    t.dir.nextToken = 1 ∧ (∀ a, t.counts a = { holds := 0, waits := 0, upgrades := 0, nextStamp := 1 }) ∧
    t.arbiter.operation = none ∧
    (∀ r, turnDistance t.arbiter.lastServed (.agent 0) ≤ turnDistance t.arbiter.lastServed r) ∧
    t.deadlines = { list := [], expiry := [] } ∧ t.clock = { ms := 0, us := 0, phase := 0 } ∧ t.sweep = [] ∧
    (∀ a, t.session a =
      { state := .closed, epoch := 0, suspectCause := none, retireCause := none, graceDue := none, lapseDue := none
        closeTag := none }) ∧
    (∀ a, t.moderator a =
      { state := .empty, accepting := false, epoch := 0, number := 0, retransmitCount := 0, overflow := .clear
        pending := [], inFlight := none, holdDue := none, retransmitDue := none }) ∧
    (∀ a, t.port a =
      { linkUp := false, inbound := [], outbound := [], reserved := false, inExecution := none, replay := []
        digestPlace := none, transmitting := none }) ∧
    t.mgmt.config.grace = 300 ∧ t.mgmt.config.lapse = 1500 ∧ t.mgmt.config.countThreshold = 4 ∧
    t.mgmt.config.holdTime = 200 ∧ t.mgmt.config.retransmitInterval = 20 ∧ t.mgmt.config.retransmitLimit = 3 ∧
    (∀ a, Per.get t.mgmt.config.membershipQuota a = 1024 ∧ Per.get t.mgmt.config.waitQuota a = 64) ∧
    t.mgmt.arg0 = 0 ∧ t.mgmt.arg1 = 0 ∧ t.mgmt.busy = none ∧
    t.mgmt.result = { code := 0, outcome := .none, reason := none, value := 0 } ∧
    t.mgmt.window =
      { valid := false, slot := .free, cleaned := false, handle := 0, ns := 0, key := 0, mode := none
        holderCount := 0, waiterCount := 0, upgradeMember := none, members := [] } ∧
    t.mgmt.holding = 0 ∧ t.mgmt.faults = 0 ∧ t.mgmt.enables = 0 ∧ (∀ r, t.mgmt.stat r = 0) ∧ t.alertLow = false ∧
    (s.spi = .released → t.spi = .released) ∧ (s.resetN = true → s.spi ≠ .released → t.spi = .abandoned) ∧
    (s.resetN = false → t.spi = s.spi) ∧ t.upsets = s.upsets ∧ t.pending = s.pending ∧
    (∀ c, c ≠ .resetNReturnsHigh → exec c t = .next t) ∧
    { t with resetN := true, spi := .released, upsets := [], pending := [] } = State.reset) ∧
  ∀ s : State, exec .resetNReturnsHigh s = .next { s with resetN := true }

/-- While RESET_N is low a command other than the two of that pin changes nothing (the model's reading of the rules that
hold each block in reset, log entry 16), and RESET_N_RETURNS_HIGH changes the pin alone. -/
def Obligations.NothingHappensWhileResetIsLow : Prop :=
  ∀ s : State, s.resetN = false →
    (∀ c, c ≠ .powerOnReset → c ≠ .resetNReturnsHigh → exec c s = .next s) ∧
    exec .resetNReturnsHigh s = .next { s with resetN := true }

/-- What the register window reads in the state after reset (R15, R65, R76, R96, R115, R148, R163, R170). -/
def Obligations.RegistersReadTheirResetValues : Prop :=
  State.reset.readRegister 0x0010 = 0 ∧ State.reset.readRegister 0x0014 = 1 ∧
  State.reset.readRegister 0x0018 = 0 ∧ State.reset.readRegister 0x0020 = 0 ∧
  State.reset.readRegister 0x0024 = 0 ∧ State.reset.readRegister 0x0030 = 0 ∧
  State.reset.readRegister 0x0034 = 0 ∧ State.reset.readRegister 0x0040 = 300 ∧
  State.reset.readRegister 0x0044 = 1500 ∧ State.reset.readRegister 0x0048 = 4 ∧
  State.reset.readRegister 0x004C = 200 ∧ State.reset.readRegister 0x0050 = 20 ∧
  State.reset.readRegister 0x0054 = 3 ∧ State.reset.readRegister 0x0060 = 0 ∧
  State.reset.readRegister 0x0064 = 0 ∧ State.reset.readRegister 0x006C = 0 ∧
  State.reset.readRegister 0x0080 = 0 ∧ State.reset.readRegister 0x0084 = 0 ∧
  State.reset.readRegister 0x0088 = 0 ∧ State.reset.readRegister 0x008C = 0 ∧
  (∀ r : StatReg, State.reset.readRegister (statAddress r) = 0) ∧
  (∀ a : AgentId, State.reset.readRegister (agentAddress a 0x00) = 0 ∧
    State.reset.readRegister (agentAddress a 0x04) = 0 ∧ State.reset.readRegister (agentAddress a 0x08) = 0 ∧
    State.reset.readRegister (agentAddress a 0x0C) = 1 ∧ State.reset.readRegister (agentAddress a 0x10) = 0 ∧
    State.reset.readRegister (agentAddress a 0x14) = 0 ∧ State.reset.readRegister (agentAddress a 0x18) = 0 ∧
    State.reset.readRegister (agentAddress a 0x20) = 1024 ∧ State.reset.readRegister (agentAddress a 0x24) = 64) ∧
  State.reset.alertLow = false

/-- Every invariant below holds in the state after reset. -/
def Obligations.InvariantsHoldAtReset : Prop :=
  TablesCanonical State.reset ∧ PortsOk State.reset ∧ SessionsOk State.reset ∧ DirectoryStateOk State.reset ∧
    CleanupJobsOk State.reset ∧ DeadlinesOk State.reset ∧ MembershipsOk State.reset ∧ TokensOk State.reset

/-! ### The arbiter, the take and the answer -/

/-- In every state an agent's queue is eligible when it holds a request and the outbound list has a free place, a reserved
one counted as occupied; the expiry queue and the Sweep Unit when they hold something and the directory is ONLINE; and the
Management Port when a command is BUSY (R20). While the engine is free the turn goes to the first eligible requester after
the one served last, in the cyclic order (R19); while an operation is in progress it goes to nobody (R22). A command that
is carried out at a turn changes nothing when the turn is not its requester's, or when the head request, the head job or
the BUSY command is another (the model's choice, log entry 1); so none is carried out out of turn, and no sweep and no
expire-wait unless the directory is ONLINE. -/
def Obligations.TurnGoesToTheFirstEligible : Prop :=
  ∀ (s : State),
    (s.arbiter.operation ≠ none → s.nextTurn = none) ∧
    (∀ a k,
      ¬ (s.resetN = true ∧ s.nextTurn = some (.agent a) ∧ ∃ q ∈ (s.port a).inbound.head?, q.body.kind = k) →
      exec (takes k a) s = .next s) ∧
    (¬ (s.resetN = true ∧ s.nextTurn = some .expiry) → exec .expireWait s = .next s) ∧
    (¬ (s.resetN = true ∧ s.nextTurn = some .sweep ∧ ∃ a, s.sweep.head? = some (.teardown a)) →
      exec .teardownStep s = .next s) ∧
    (¬ (s.resetN = true ∧ s.nextTurn = some .sweep ∧ ∃ h, s.sweep.head? = some (.cleanup h)) →
      exec .cleanupStep s = .next s) ∧
    (∀ k, ¬ (s.resetN = true ∧ s.nextTurn = some .management ∧ ∃ b ∈ s.mgmt.busy, b.command = k) →
      exec (carriesOut k) s = .next s) ∧
    (∀ a, s.eligible (.agent a) = true ↔ (s.port a).inbound ≠ [] ∧ Room s a) ∧
    (s.eligible .expiry = true ↔ s.deadlines.expiry ≠ [] ∧ s.dir.state = .online) ∧
    (s.eligible .sweep = true ↔ s.sweep ≠ [] ∧ s.dir.state = .online) ∧
    (s.eligible .management = true ↔ ∃ c, s.mgmt.busy = some c) ∧
    (s.arbiter.operation = none →
    (∀ r : Requester, s.nextTurn = some r ↔
      s.eligible r = true ∧
        ∀ r', s.eligible r' = true →
          turnDistance s.arbiter.lastServed r ≤ turnDistance s.arbiter.lastServed r') ∧
    (s.nextTurn = none ↔ ∀ r, s.eligible r = false))

/-- A directory request is refused at take by the first check of R23 that applies, and no record is read. -/
def Obligations.DirectoryRequestIsRefusedAtTake : Prop :=
  ∀ (s : State) (a : AgentId) (q : Request) (rest : List Request),
    AgentTurn s a q rest → isDirectoryKind q.body.kind = true →
    ((s.session a).state = .closed →
      exec (takes q.body.kind a) s = .next (refused a q .noSession (taken s a q rest))) ∧
    ((s.session a).state = .suspect →
      exec (takes q.body.kind a) s = .next (refused a q .sessionSuspect (taken s a q rest))) ∧
    ((s.session a).state = .retiring →
      exec (takes q.body.kind a) s = .next (refused a q .teardownInProgress (taken s a q rest))) ∧
    ((s.session a).state = .active → s.dir.state = .offline →
      exec (takes q.body.kind a) s = .next (refused a q .offline (taken s a q rest))) ∧
    ((s.session a).state = .active → s.dir.state = .halted →
      exec (takes q.body.kind a) s = .next (refused a q .halted (taken s a q rest)))

/-! ### ACQUIRE -/

/-- An ACQUIRE whose name no LIVE slot has: the four refusals in their order, and otherwise the new record in the
lowest-numbered FREE slot (R7, R32). -/
def Obligations.AcquireOnAFreeNameCreatesTheRecord : Prop :=
  ∀ (s : State) (a : AgentId) (q : Request) (rest : List Request) (ns : Byte) (mode : Mode) (tryNow prompt notice : Bool)
    (deadline : BitVec 16) (key : Key),
    Served s a q rest → q.body = .acquire ns mode tryNow prompt notice deadline key →
    (taken s a q rest).findName ns key = none →
    (MembershipQuotaApplies s a →
      exec (.acquire a) s = .next (executed a q .membershipQuota (taken s a q rest))) ∧
    (¬ MembershipQuotaApplies s a → Full s.dir.slots 4096 →
      exec (.acquire a) s = .next (executed a q .directoryFull (taken s a q rest))) ∧
    (∀ h, ¬ MembershipQuotaApplies s a → LowestFree s.dir.slots 4096 h → Full s.dir.pool 8192 →
      exec (.acquire a) s = .next (executed a q .poolFull (taken s a q rest))) ∧
    (∀ h i, ¬ MembershipQuotaApplies s a → LowestFree s.dir.slots 4096 h → LowestFree s.dir.pool 8192 i →
      s.dir.nextToken = 0 →
      exec (.acquire a) s = .next (executed a q .sequenceExhausted (taken s a q rest))) ∧
    (∀ h i, ¬ MembershipQuotaApplies s a → LowestFree s.dir.slots 4096 h → LowestFree s.dir.pool 8192 i →
      s.dir.nextToken ≠ 0 →
      exec (.acquire a) s = .next
        (executed a q (.granted h mode s.dir.nextToken)
          (granted a h i mode q.tag notice
            (sealed { ns := ns, key := key, mode := mode, holders := [i], waiters := [], upgrade := none
                      checkOk := true })
            (taken s a q rest))))

/-- An ACQUIRE whose name a sound LIVE record has and that makes no wait: ALREADY_HELD or ALREADY_WAITING for an agent on
the record (R33); a compatible one is granted at once after its three checks (R34); one that is not compatible and has its
try option set is refused CONTENDED (R35). A refusal changes nothing. -/
def Obligations.AcquireOnALiveRecordIsAnsweredAtOnce : Prop :=
  ∀ (s : State) (a : AgentId) (q : Request) (rest : List Request) (ns : Byte) (mode : Mode) (tryNow prompt notice : Bool)
    (deadline : BitVec 16) (key : Key) (h : Nat) (r : Record) (u : State),
    Served s a q rest → q.body = .acquire ns mode tryNow prompt notice deadline key → u = taken s a q rest →
    u.findName ns key = some (h, r) → u.record h = some r → u.verify r = .sound →
    (∀ i m, u.memberOf a r.holders = some (i, m) →
      exec (.acquire a) s = .next (executed a q (.alreadyHeld h m.mode m.token) u)) ∧
    (∀ i m, u.memberOf a r.holders = none → u.memberOf a r.waiters = some (i, m) →
      exec (.acquire a) s = .next (executed a q (.alreadyWaiting h) u)) ∧
    (u.memberOf a r.holders = none → u.memberOf a r.waiters = none →
      ((mode = .shared ∧ r.mode = .shared ∧ r.waiters = [] ∧ r.upgrade = none) →
        (MembershipQuotaApplies s a → exec (.acquire a) s = .next (executed a q .membershipQuota u)) ∧
        (¬ MembershipQuotaApplies s a → Full s.dir.pool 8192 →
          exec (.acquire a) s = .next (executed a q .poolFull u)) ∧
        (∀ i, ¬ MembershipQuotaApplies s a → LowestFree s.dir.pool 8192 i → s.dir.nextToken = 0 →
          exec (.acquire a) s = .next (executed a q .sequenceExhausted u)) ∧
        (∀ i, ¬ MembershipQuotaApplies s a → LowestFree s.dir.pool 8192 i → s.dir.nextToken ≠ 0 →
          exec (.acquire a) s = .next
            (executed a q (.granted h .shared s.dir.nextToken)
              (granted a h i .shared q.tag notice (sealed { r with holders := r.holders ++ [i] }) u)))) ∧
      (¬ (mode = .shared ∧ r.mode = .shared ∧ r.waiters = [] ∧ r.upgrade = none) → tryNow = true →
        exec (.acquire a) s = .next (executed a q (.contended h r.mode r.holders.length) u)))

/-- An ACQUIRE on a sound record that is not compatible and has no try option: the four refusals in their order, and
otherwise the wait at the tail of the queue, with its deadline and the notices to the holders (R36, R37). -/
def Obligations.AcquireIsAdmittedAsAWait : Prop :=
  ∀ (s : State) (a : AgentId) (q : Request) (rest : List Request) (ns : Byte) (mode : Mode) (prompt notice : Bool)
    (deadline : BitVec 16) (key : Key) (h : Nat) (r : Record) (u : State),
    Served s a q rest → q.body = .acquire ns mode false prompt notice deadline key → u = taken s a q rest →
    u.findName ns key = some (h, r) → u.verify r = .sound →
    u.memberOf a r.holders = none → u.memberOf a r.waiters = none →
    u.record h = some r →
    ¬ (mode = .shared ∧ r.mode = .shared ∧ r.waiters = [] ∧ r.upgrade = none) →
    (MembershipQuotaApplies s a →
      exec (.acquire a) s = .next (executed a q .membershipQuota u)) ∧
    (¬ MembershipQuotaApplies s a → WaitQuotaApplies s a →
      exec (.acquire a) s = .next (executed a q .waitQuota u)) ∧
    (¬ MembershipQuotaApplies s a → ¬ WaitQuotaApplies s a → Full s.dir.pool 8192 →
      exec (.acquire a) s = .next (executed a q .poolFull u)) ∧
    (∀ i, ¬ MembershipQuotaApplies s a → ¬ WaitQuotaApplies s a → LowestFree s.dir.pool 8192 i →
      r.holders = [] → 7 ≤ r.waiters.length →
      exec (.acquire a) s = .next (executed a q .sequenceExhausted u)) ∧
    (∀ i, ¬ MembershipQuotaApplies s a → ¬ WaitQuotaApplies s a → LowestFree s.dir.pool 8192 i →
      ¬ (r.holders = [] ∧ 7 ≤ r.waiters.length) →
      exec (.acquire a) s = .next
        (executed a q (.queued h)
          (counted (.agent a .waitsAdmitted)
            (((wrote h { r with waiters := r.waiters ++ [i] }
              (wroteCounts a
                { s.counts a with waits := (s.counts a).waits + 1, nextStamp := (s.counts a).nextStamp + 1 }
                (wroteMember i (made s a h .wait mode 0 q.tag notice prompt) u))).registerDeadline
                  i .wait deadline).contendAll h mode r.holders))))

/-! ### RELEASE, DOWNGRADE, UPGRADE, CANCEL -/

/-- RELEASE, DOWNGRADE and UPGRADE validate the handle and the token by the same checks in the same order; a request
that a check refuses makes no change (R27; the third check is CheckFailureQuarantinesOrHalts). -/
def Obligations.HoldIsValidatedByHandleAndToken : Prop :=
  ∀ (s : State) (a : AgentId) (q : Request) (rest : List Request) (handle : BitVec 16) (token : Token),
    Served s a q rest → holdNamed q.body = some (handle, token) →
    (∀ c r, (taken s a q rest).slot handle.toNat = some (.quarantined c r) →
      exec (takes q.body.kind a) s = .next (executed a q (.recordFault handle.toNat) (taken s a q rest))) ∧
    ((taken s a q rest).slot handle.toNat = none →
      exec (takes q.body.kind a) s = .next (executed a q (.notHeld handle.toNat) (taken s a q rest))) ∧
    (∀ r, (taken s a q rest).slot handle.toNat = some (.live r) → (taken s a q rest).verify r = .sound →
      (taken s a q rest).memberOf a r.holders = none →
      exec (takes q.body.kind a) s = .next (executed a q (.notHeld handle.toNat) (taken s a q rest))) ∧
    (∀ r i m, (taken s a q rest).slot handle.toNat = some (.live r) → (taken s a q rest).verify r = .sound →
      (taken s a q rest).memberOf a r.holders = some (i, m) → m.token ≠ token →
      exec (takes q.body.kind a) s = .next (executed a q (.staleToken handle.toNat) (taken s a q rest)))

/-- A RELEASE that passes the checks removes the hold and runs the grant pass (R38): the hold's entry is free, no other
slot changes, and a record left without holders and waiters is FREE. -/
def Obligations.ReleaseRemovesTheHold : Prop :=
  ∀ (s : State) (a : AgentId) (q : Request) (rest : List Request) (handle : BitVec 16) (token : Token) (r : Record)
    (i : Nat) (m : Membership) (u : State),
    Served s a q rest → q.body = .release handle token → u = taken s a q rest →
    u.slot handle.toNat = some (.live r) → u.verify r = .sound →
    u.memberOf a r.holders = some (i, m) → m.token = token →
    exec (.release a) s = .next
      (executed a q (.released handle.toNat) ((u.removeHold handle.toNat i).grantPass handle.toNat)) ∧
    ((u.removeHold handle.toNat i).grantPass handle.toNat).member i = none ∧
    (∀ h, h ≠ handle.toNat →
      ((u.removeHold handle.toNat i).grantPass handle.toNat).slot h = u.slot h) ∧
    (r.holders = [i] → r.waiters = [] →
      ((u.removeHold handle.toNat i).grantPass handle.toNat).slot handle.toNat = none)

/-- A DOWNGRADE that passes the checks is WRONG_MODE on a SHARED hold and changes nothing; on an EXCLUSIVE hold the record
and the hold become SHARED, the hold keeps its token, and the grant pass runs (R39). -/
def Obligations.DowngradeKeepsTheToken : Prop :=
  ∀ (s : State) (a : AgentId) (q : Request) (rest : List Request) (handle : BitVec 16) (token : Token) (r : Record)
    (i : Nat) (m : Membership) (u : State),
    Served s a q rest → q.body = .downgrade handle token → u = taken s a q rest →
    u.slot handle.toNat = some (.live r) → u.verify r = .sound →
    u.memberOf a r.holders = some (i, m) → m.token = token →
    (m.mode = .shared → exec (.downgrade a) s = .next (executed a q (.wrongMode handle.toNat) u)) ∧
    (m.mode = .exclusive →
      exec (.downgrade a) s = .next
        (executed a q (.downgraded handle.toNat m.token)
          ((wroteMember i { m with mode := .shared }
            (wrote handle.toNat { r with mode := .shared } u)).grantPass handle.toNat)))

/-- An UPGRADE that passes the checks: WRONG_MODE on an EXCLUSIVE hold; by the sole holder SEQUENCE_EXHAUSTED, or at once
EXCLUSIVE with the next token, whatever waits; UPGRADE_CONFLICT and ALREADY_WAITING beside a pending upgrade (R40);
otherwise WAIT_QUOTA, or the pending upgrade with its tag, prompt flag and deadline, counted against the wait quota, and
the notices to the other holders (R41, R67). -/
def Obligations.UpgradeIsGrantedOrSetPending : Prop :=
  ∀ (s : State) (a : AgentId) (q : Request) (rest : List Request) (handle : BitVec 16) (token : Token) (prompt : Bool)
    (deadline : BitVec 16) (r : Record) (i : Nat) (m : Membership) (u : State),
    Served s a q rest → q.body = .upgrade handle token prompt deadline → u = taken s a q rest →
    u.slot handle.toNat = some (.live r) → u.verify r = .sound →
    u.memberOf a r.holders = some (i, m) → m.token = token →
    (m.mode = .exclusive → exec (.upgrade a) s = .next (executed a q (.wrongMode handle.toNat) u)) ∧
    (m.mode = .shared → r.holders = [i] →
      (u.dir.nextToken = 0 → exec (.upgrade a) s = .next (executed a q .sequenceExhausted u)) ∧
      (u.dir.nextToken ≠ 0 →
        exec (.upgrade a) s = .next
          (executed a q (.granted handle.toNat .exclusive u.dir.nextToken)
            ((counted (.agent a .grants)
              (tokenTaken
                (wroteMember i
                  { m with
                    mode := .exclusive, token := u.dir.nextToken, noticed := false, tag := q.tag, prompt := prompt }
                  (wrote handle.toNat { r with mode := .exclusive } u)))).contentionCheck handle.toNat i)))) ∧
    (m.mode = .shared → r.holders ≠ [i] →
      (∀ j, r.upgrade = some j → j ≠ i →
        exec (.upgrade a) s = .next (executed a q (.upgradeConflict handle.toNat) u)) ∧
      (r.upgrade = some i → exec (.upgrade a) s = .next (executed a q (.alreadyWaiting handle.toNat) u)) ∧
      (r.upgrade = none → WaitQuotaApplies s a → exec (.upgrade a) s = .next (executed a q .waitQuota u)) ∧
      (r.upgrade = none → ¬ WaitQuotaApplies s a →
        exec (.upgrade a) s = .next
          (executed a q (.queued handle.toNat)
            ((counted (.agent a .waitsAdmitted)
              (wroteCounts a { u.counts a with upgrades := (u.counts a).upgrades + 1 }
                (((wrote handle.toNat { r with upgrade := some i }
                  (wroteMember i
                    { m with upgradePending := true, tag := q.tag, prompt := prompt, deadline := none }
                    u)).removeDeadline i).registerDeadline i .upgrade deadline))).contendAll handle.toNat .exclusive
              (r.holders.filter (fun j => decide (j ≠ i)))))))

/-- CANCEL by the first case of R42 that applies (its third case is CheckFailureQuarantinesOrHalts). -/
def Obligations.CancelWithdrawsTheWaitOrTheUpgrade : Prop :=
  ∀ (s : State) (a : AgentId) (q : Request) (rest : List Request) (handle : BitVec 16) (u : State),
    Served s a q rest → q.body = .cancel handle → u = taken s a q rest →
    (∀ c r, u.slot handle.toNat = some (.quarantined c r) →
      exec (.cancel a) s = .next (executed a q (.recordFault handle.toNat) u)) ∧
    (u.slot handle.toNat = none →
      exec (.cancel a) s = .next (executed a q (.notWaiting handle.toNat) u)) ∧
    (∀ r, u.slot handle.toNat = some (.live r) → u.verify r = .sound →
      (∀ i m, u.memberOf a r.waiters = some (i, m) →
        exec (.cancel a) s = .next
          (executed a q (.cancelled handle.toNat) ((u.removeWait handle.toNat i).grantPass handle.toNat))) ∧
      (∀ i m, u.memberOf a r.waiters = none → u.memberOf a r.holders = some (i, m) → m.upgradePending = true →
        exec (.cancel a) s = .next
          (executed a q (.cancelled handle.toNat) ((u.clearUpgrade handle.toNat i).grantPass handle.toNat))) ∧
      (∀ i m, u.memberOf a r.waiters = none → u.memberOf a r.holders = some (i, m) → m.upgradePending = false →
        exec (.cancel a) s = .next (executed a q (.alreadyGranted handle.toNat m.mode m.token) u)) ∧
      (u.memberOf a r.waiters = none → u.memberOf a r.holders = none →
        exec (.cancel a) s = .next (executed a q (.notWaiting handle.toNat) u)))

/-- What removing a hold, removing a wait and clearing a pending upgrade change, and that they change nothing else (R29,
R30, R31, R68). -/
def Obligations.RemovalsFreeTheMembership : Prop :=
  ∀ (s : State) (h i : Nat) (r : Record) (m : Membership) (d : State),
    s.record h = some r → s.member i = some m → d = (if m.deadline.isSome then delisted i s else s) →
    (m.role = .hold → m.upgradePending = false →
      s.removeHold h i =
        wroteCounts m.agent { s.counts m.agent with holds := (s.counts m.agent).holds - 1 }
          (freed i (wrote h { r with holders := r.holders.filter (fun j => decide (j ≠ i)) } s))) ∧
    (m.role = .hold → m.upgradePending = true →
      s.removeHold h i =
        wroteCounts m.agent
          { s.counts m.agent with
            holds := (s.counts m.agent).holds - 1, upgrades := (s.counts m.agent).upgrades - 1 }
          (freed i (wrote h { r with holders := r.holders.filter (fun j => decide (j ≠ i)), upgrade := none } d))) ∧
    (m.role = .wait →
      s.removeWait h i =
        wroteCounts m.agent { s.counts m.agent with waits := (s.counts m.agent).waits - 1 }
          (freed i (wrote h { r with waiters := r.waiters.filter (fun j => decide (j ≠ i)) } d))) ∧
    s.clearUpgrade h i =
      wroteCounts m.agent { s.counts m.agent with upgrades := (s.counts m.agent).upgrades - 1 }
        (wrote h { r with upgrade := none }
          (wroteMember i { m with upgradePending := false, deadline := none } d))

/-! ### The grant pass -/

/-- The grant pass takes waiters from the head of the queue alone, in admission order: what is left is a tail of the
queue, the holders before the pass keep their order and those it grants follow them in queue order; no other slot, no
session and no port's requests or responses change (R46, R50). A record without holders goes to its head waiter, unless
that waiter's agent is RETIRING, in the waiter's mode and with the next token; the membership keeps its agent, stamp and
tag (R44, R46, R48). And the whole pass, where it grants no upgrade: a pending upgrade of a RETIRING agent is cleared
(R45); then the head waiters go as `Run` says, those of RETIRING agents removed (R44), one granted to a record without
holders, and SHARED ones to a SHARED record without a pending upgrade, up to the first EXCLUSIVE one behind holders, the
end of the queue or the end of the grant sequence (R46, R48); a record that can take none is left without a look at its
head (the model's reading, log entry 12); then come the contention checks, in grant order (R47), and
the record retires if nothing is left on it (R8, R49). -/
def Obligations.GrantPassServesTheQueueInOrder : Prop :=
  ∀ (s : State) (h : Nat) (r : Record), s.record h = some r → r.waiters.Nodup →
    (∀ k, k ≠ h → (s.grantPass h).slot k = s.slot k) ∧
    (s.grantPass h).sessions = s.sessions ∧ (s.grantPass h).sweep = s.sweep ∧ (s.grantPass h).clock = s.clock ∧
    (∀ a, ((s.grantPass h).port a).inbound = (s.port a).inbound ∧
      ((s.grantPass h).port a).outbound = (s.port a).outbound ∧ ((s.grantPass h).port a).replay = (s.port a).replay) ∧
    ((s.grantPass h).slot h = none ∨
      ∃ r' n g, (s.grantPass h).slot h = some (.live r') ∧ r'.waiters = r.waiters.drop n ∧
        r'.holders = r.holders ++ g ∧ g.Sublist (r.waiters.take n)) ∧
    (∀ i m ws, r.holders = [] → r.upgrade = none → r.waiters = i :: ws → s.member i = some m →
      (s.session m.agent).state ≠ .retiring → s.dir.nextToken ≠ 0 →
      ∃ r' m', (s.grantPass h).record h = some r' ∧ r'.mode = m.mode ∧ r'.holders.head? = some i ∧
        (s.grantPass h).member i = some m' ∧ m'.agent = m.agent ∧ m'.role = .hold ∧ m'.mode = m.mode ∧
        m'.token = s.dir.nextToken ∧ m'.stamp = m.stamp ∧ m'.tag = m.tag ∧ m'.deadline = none) ∧
    ((∀ i ∈ r.waiters, ∃ m, s.member i = some m) →
      (∀ i m, r.upgrade = some i → s.member i = some m → (s.session m.agent).state = .retiring →
        ∃ g t, Run h (s.clearUpgrade h i) g t ∧ s.grantPass h = passEnded h g t) ∧
      (r.upgrade = none ∨
          (∃ i m, r.upgrade = some i ∧ s.member i = some m ∧ (s.session m.agent).state ≠ .retiring ∧
            (r.holders ≠ [i] ∨ s.dir.nextToken = 0)) →
        ∃ g t, Run h s g t ∧ s.grantPass h = passEnded h g t))

/-- The pending upgrade of a sole holder is granted before any waiter: EXCLUSIVE with the next token, its deadline
withdrawn, a GRANTED notification with the upgrade flag, then the contention check; the waiters stay (R45). -/
def Obligations.GrantPassServesThePendingUpgradeFirst : Prop :=
  ∀ (s : State) (h i : Nat) (r : Record) (m : Membership) (d : State),
    s.record h = some r → r.upgrade = some i → r.holders = [i] → s.member i = some m →
    (s.session m.agent).state ≠ .retiring → s.dir.nextToken ≠ 0 →
    d = (if m.deadline.isSome then delisted i s else s) →
    s.grantPass h =
      (counted (.agent m.agent .grants)
        ((tokenTaken
          (wroteCounts m.agent { s.counts m.agent with upgrades := (s.counts m.agent).upgrades - 1 }
            (wrote h { r with upgrade := none, mode := .exclusive }
              (wroteMember i
                { m with
                  upgradePending := false, deadline := none, mode := .exclusive, token := s.dir.nextToken
                  noticed := false }
                d)))).notify m.agent
          (.granted h .exclusive s.dir.nextToken m.tag true m.prompt))).contentionCheck h i

/-- What the grant of a waiter changes (R48), and what a contention notice changes (R37, R41, R47): the check of a new hold
tells it of the head waiter's mode and does nothing on an empty queue (R47), and an admission examines the holders one by
one, in grant order (R37, R41). -/
def Obligations.GrantOfAWaiterAndContentionNotice : Prop :=
  (∀ (s : State) (h i : Nat) (r : Record) (m : Membership) (d : State),
    s.record h = some r → s.member i = some m → d = (if m.deadline.isSome then delisted i s else s) →
    s.grantWaiter h i =
      counted (.agent m.agent .grants)
        ((wroteCounts m.agent
          { s.counts m.agent with
            waits := (s.counts m.agent).waits - 1, holds := (s.counts m.agent).holds + 1 }
          (tokenTaken
            (wrote h
              { r with
                mode := if r.holders = [] then m.mode else r.mode
                waiters := r.waiters.filter (fun j => decide (j ≠ i))
                holders := r.holders ++ [i] }
              (wroteMember i
                { m with role := .hold, token := s.dir.nextToken, noticed := false, deadline := none } d)))).notify
          m.agent (.granted h m.mode s.dir.nextToken m.tag false m.prompt))) ∧
  (∀ (s : State) (h i : Nat) (wanted : Mode) (m : Membership), s.member i = some m →
    (m.notice = true → m.noticed = false →
      s.contend h wanted i =
        (wroteMember i { m with noticed := true } s).notify m.agent (.contended h m.token wanted)) ∧
    (m.notice = false ∨ m.noticed = true → s.contend h wanted i = s)) ∧
  (∀ (s : State) (h i : Nat) (r : Record), s.record h = some r →
    (r.waiters = [] → s.contentionCheck h i = s) ∧
    (∀ w ws m, r.waiters = w :: ws → s.member w = some m → s.contentionCheck h i = s.contend h m.mode i)) ∧
  (∀ (s : State) (h i : Nat) (wanted : Mode) (l : List Nat),
    s.contendAll h wanted [] = s ∧
      s.contendAll h wanted (i :: l) = (s.contend h wanted i).contendAll h wanted l)

/-! ### Queries and check failures -/

/-- LOOKUP answers ABSENT for a name that no LIVE slot has, and FOUND with the holders and waiters of a sound record
(R59); LIST answers LISTED with the first 16 memberships of the agent whose stamp is greater than the after-stamp, in stamp
order, when every one of them and its LIVE slot are sound (R54, R60, R61). Neither changes anything. -/
def Obligations.QueriesReportAndChangeNothing : Prop :=
  ∀ (s : State) (a : AgentId) (q : Request) (rest : List Request) (u : State),
    Served s a q rest → u = taken s a q rest →
    (∀ ns key, q.body = .lookup ns key →
      (u.findName ns key = none → exec (.lookup a) s = .next (executed a q .absent u)) ∧
      (∀ h r, u.findName ns key = some (h, r) → u.verify r = .sound →
        exec (.lookup a) s = .next
          (executed a q
            (.found h r.mode
              (r.holders.filterMap (fun i => (u.member i).map (fun m => (m.agent, m.token))))
              (r.waiters.filterMap (fun i => (u.member i).map (fun m => (m.agent, m.mode))))
              (r.upgrade.bind (fun i => (u.member i).map Membership.agent)))
            u))) ∧
    (∀ after later, q.body = .list after →
      later = (u.holdings a).filter (fun e => decide (after < e.2.stamp)) →
      (∀ e ∈ later.take 16, e.2.checkOk = true ∧ ∀ r, u.slot e.2.handle = some (.live r) → r.checkOk = true) →
      exec (.list a) s = .next
        (executed a q (.listed ((later.take 16).map (fun e => listedOf u e.2)) (decide (16 < later.length))) u)) ∧
    (u.holdings a).Pairwise (fun x y => x.2.stamp ≤ y.2.stamp) ∧
    (∀ e, e ∈ u.holdings a ↔ e ∈ u.dir.pool ∧ e.2.agent = a)

/-- LIST reads the selected memberships in stamp order, each with its slot, and the first failure ends it: a failed
membership halts the directory and the answer is HALTED; a failed record is quarantined and the answer is RECORD_FAULT
(R60, R152 to R154). -/
def Obligations.ListStopsAtTheFirstFailedRead : Prop :=
  ∀ (s : State) (a : AgentId) (q : Request) (rest : List Request) (after : Stamp) (u : State)
    (before behind : List (Nat × Membership)) (i : Nat) (m : Membership),
    Served s a q rest → u = taken s a q rest → q.body = .list after →
    ((u.holdings a).filter (fun e => decide (after < e.2.stamp))).take 16 = before ++ (i, m) :: behind →
    (∀ e ∈ before, e.2.checkOk = true ∧ ∀ r, u.slot e.2.handle = some (.live r) → r.checkOk = true) →
    (m.checkOk = false → exec (.list a) s = .next (executed a q .halted (halted .membershipFault u))) ∧
    (∀ r, m.checkOk = true → u.slot m.handle = some (.live r) → r.checkOk = false →
      exec (.list a) s = .next (executed a q (.recordFault m.handle) (quarantined m.handle r u)))

/-- A request that concerns a LIVE record one of whose check codes fails: a failed record is quarantined and the answer is
RECORD_FAULT; a failed membership halts the directory and the answer is HALTED (R12, R98, R150 to R154, Table 9-1). A
read is sound exactly when the check codes of the record and of every listed membership match (R12, R150); the key match
finds exactly the LIVE slot with the name (R2), and an agent's membership on a list is the first of its own. What may fail
at a read is what the environment has damaged: at the beginning of an operation the record of one slot, one membership, or
nothing (the model's choice, log entry 4). -/
def Obligations.CheckFailureQuarantinesOrHalts : Prop :=
  (∀ (s t : State) (rest : List Upset), t = { s with upsets := rest } →
    (s.upsets = [] → s.sufferUpset = s) ∧
    (s.upsets = .none :: rest → s.sufferUpset = t) ∧
    (∀ h, s.upsets = .slot h :: rest →
      (s.record h = none → s.sufferUpset = t) ∧
      (∀ r, s.record h = some r →
        s.sufferUpset =
          { t with dir := { s.dir with slots := Table.put s.dir.slots h (.live { r with checkOk := false }) } })) ∧
    (∀ i, s.upsets = .entry i :: rest →
      (s.member i = none → s.sufferUpset = t) ∧
      (∀ m, s.member i = some m →
        s.sufferUpset =
          { t with dir := { s.dir with pool := Table.put s.dir.pool i { m with checkOk := false } } }))) ∧
  (∀ (s : State) (r : Record),
    (s.verify r = .sound ↔
      r.checkOk = true ∧ ∀ i ∈ r.holders ++ r.waiters, ∀ m, s.member i = some m → m.checkOk = true) ∧
    (s.verify r = .recordFault ↔ r.checkOk = false) ∧
    (s.verify r = .memberFault ↔
      r.checkOk = true ∧ ∃ i ∈ r.holders ++ r.waiters, ∃ m, s.member i = some m ∧ m.checkOk = false)) ∧
  (∀ (s : State) (ns : Byte) (key : Key) (h : Nat) (r : Record), TablesCanonical s → NamesOk s →
    (s.findName ns key = some (h, r) ↔ s.slot h = some (.live r) ∧ r.ns = ns ∧ r.key = key)) ∧
  (∀ (s : State) (a : AgentId) (refs : List Nat),
    (∀ i m, s.memberOf a refs = some (i, m) ↔
      s.member i = some m ∧ m.agent = a ∧
        ∃ before after, refs = before ++ i :: after ∧ ∀ j ∈ before, ∀ x, s.member j = some x → x.agent ≠ a) ∧
    (s.memberOf a refs = none ↔ ∀ j ∈ refs, ∀ x, s.member j = some x → x.agent ≠ a)) ∧
  ∀ (s : State) (a : AgentId) (q : Request) (rest : List Request) (h : Nat) (r : Record) (u : State),
    Served s a q rest → u = taken s a q rest → concerned u q = some (h, r) →
    (r.checkOk = false →
      exec (takes q.body.kind a) s = .next (executed a q (.recordFault h) (quarantined h r u))) ∧
    (r.checkOk = true → (∃ i ∈ r.holders ++ r.waiters, ∃ m, u.member i = some m ∧ m.checkOk = false) →
      exec (takes q.body.kind a) s = .next (executed a q .halted (halted .membershipFault u)))

/-! ### Deadlines -/

/-- What registering, withdrawing and removing a deadline change (R65 to R68): the new entry stands behind every entry that
is due no later and before the others, an older entry of the pool index is gone from list and queue, and the membership's
deadline field is written; a duration of 0 registers nothing; a withdrawal leaves the expiry queue alone. -/
def Obligations.DeadlinesAreRegisteredAndWithdrawn : Prop :=
  ∀ (s : State) (i : Nat) (kind : DeadlineKind) (d : BitVec 16) (m : Membership), s.member i = some m →
    (d = 0 → s.registerDeadline i kind d = s) ∧
    (d ≠ 0 →
      ∃ before after t,
        s.deadlines.list.filter (fun e => decide (e.index ≠ i)) = before ++ after ∧
        (∀ x ∈ before, (x.due - s.clock.ms).toNat ≤ (t - s.clock.ms).toNat) ∧
        (∀ x ∈ after.head?, (t - s.clock.ms).toNat < (x.due - s.clock.ms).toNat) ∧
        t = s.clock.ms + d.setWidth 32 + 1 ∧
        s.registerDeadline i kind d =
          wroteMember i { m with deadline := some t }
            { s with
              deadlines :=
                { list :=
                    before ++ { index := i, agent := m.agent, stamp := m.stamp, kind := kind, due := t } :: after
                  expiry := s.deadlines.expiry.filter (fun e => decide (e.index ≠ i)) } }) ∧
    (m.deadline ≠ none → s.withdrawDeadline i = wroteMember i { m with deadline := none } (delisted i s)) ∧
    (m.deadline = none → s.withdrawDeadline i = s) ∧
    s.removeDeadline i =
      { s with
        deadlines :=
          { list := s.deadlines.list.filter (fun e => decide (e.index ≠ i))
            expiry := s.deadlines.expiry.filter (fun e => decide (e.index ≠ i)) } }

/-- The entries at the head of the deadline list whose due time the timebase has reached join the tail of the expiry queue
in list order, and nothing else changes (R69). -/
def Obligations.DueDeadlinesJoinTheExpiryQueue : Prop :=
  ∀ (s : State) (out stay : List Deadline), s.resetN = true → s.deadlines.list = out ++ stay →
    (∀ e ∈ out, Reached s.clock.ms e.due) → (∀ e ∈ stay.head?, ¬ Reached s.clock.ms e.due) →
    exec .deadlineFallsDue s = .next { s with deadlines := { list := stay, expiry := s.deadlines.expiry ++ out } }

/-- An expire-wait is dropped when its pool entry is free or stale (R70); it halts the directory at a failed membership and
quarantines a failed record (R73); and otherwise it removes the wait, or clears the pending upgrade, tells the agent, counts
the expiry and runs the grant pass (R71, R72). -/
def Obligations.ExpireWaitEndsOnlyTheSameWait : Prop :=
  ∀ (s : State) (e : Deadline) (rest : List Deadline) (u : State), ExpiryTurn s e rest →
    u = { begun .expiry s with deadlines := { s.deadlines with expiry := rest } } →
    (u.member e.index = none → exec .expireWait s = .next (ended u)) ∧
    (∀ m, u.member e.index = some m →
      (m.checkOk = false → exec .expireWait s = .next (ended (halted .membershipFault u))) ∧
      (m.checkOk = true → Stale u e m → exec .expireWait s = .next (ended u)) ∧
      (∀ r, m.checkOk = true → ¬ Stale u e m → u.slot m.handle = some (.live r) →
        (u.verify r = .recordFault → exec .expireWait s = .next (ended (quarantined m.handle r u))) ∧
        (u.verify r = .memberFault → exec .expireWait s = .next (ended (halted .membershipFault u))) ∧
        (u.verify r = .sound → e.kind = .wait →
          exec .expireWait s = .next
            (ended ((counted (.agent m.agent .waitExpiries)
              ((u.removeWait m.handle e.index).notify m.agent (.waitExpired m.handle m.tag false))).grantPass
                m.handle))) ∧
        (u.verify r = .sound → e.kind = .upgrade →
          exec .expireWait s = .next
            (ended ((counted (.agent m.agent .waitExpiries)
              ((u.clearUpgrade m.handle e.index).notify m.agent (.waitExpired m.handle m.tag true))).grantPass
                m.handle)))))

/-! ### Sessions -/

/-- OPEN is decided by the session's state: it opens a CLOSED session while the directory is ONLINE, and is answered
OFFLINE, HALTED, SESSION_EXISTS or TEARDOWN_IN_PROGRESS otherwise (R77, R79, R80, R125). Of the answers only OPENED and
SESSION_EXISTS enter the replay cache; that SESSION_EXISTS does, which R142 does not list among the responses left out, is
the model's reading (log entry 19). -/
def Obligations.OpenOpensAClosedSession : Prop :=
  ∀ (s : State) (a : AgentId) (q : Request) (rest : List Request) (u : State),
    AgentTurn s a q rest → q.body = .openSession → u = taken s a q rest →
    ((s.session a).state = .closed → s.dir.state = .online →
      exec (.openSession a) s = .next
        (executed a q (.opened (if (s.session a).epoch = 65535 then 1 else (s.session a).epoch + 1)) (opened a u))) ∧
    ((s.session a).state = .closed → s.dir.state = .offline →
      exec (.openSession a) s = .next (refused a q .offline u)) ∧
    ((s.session a).state = .closed → s.dir.state = .halted →
      exec (.openSession a) s = .next (refused a q .halted u)) ∧
    ((s.session a).state = .active ∨ (s.session a).state = .suspect →
      exec (.openSession a) s = .next
        (executed a q (.sessionExists (s.session a).epoch (s.session a).state) u)) ∧
    ((s.session a).state = .retiring → exec (.openSession a) s = .next (refused a q .teardownInProgress u))

/-- RESUME, CLOSE and FLUSH at take: SESSION_LOST or NO_SESSION in CLOSED whatever the epoch, STALE_SESSION for an epoch
that is not current, and SESSION_LOST or TEARDOWN_IN_PROGRESS in RETIRING (R78, R81, R90, R119). -/
def Obligations.SessionRequestIsRefusedAtTake : Prop :=
  ∀ (s : State) (a : AgentId) (q : Request) (rest : List Request) (u : State),
    AgentTurn s a q rest → (q.body = .resume ∨ q.body = .close ∨ q.body = .flush) → u = taken s a q rest →
    ((s.session a).state = .closed →
      exec (takes q.body.kind a) s = .next
        (refused a q (if q.body = .resume then .sessionLost else .noSession) u)) ∧
    ((s.session a).state ≠ .closed → q.epoch ≠ (s.session a).epoch →
      exec (takes q.body.kind a) s = .next (refused a q .staleSession u)) ∧
    ((s.session a).state = .retiring → q.epoch = (s.session a).epoch →
      exec (takes q.body.kind a) s = .next
        (refused a q (if q.body = .resume then .sessionLost else .teardownInProgress) u))

/-- RESUME with the current epoch restarts the grace timer of an ACTIVE session; it returns a SUSPECT session to ACTIVE, and
the moderator resends its digest in flight, or enters COLLECTING, or enters EMPTY (R81, R127). -/
def Obligations.ResumeReturnsTheSessionToActive : Prop :=
  ∀ (s : State) (a : AgentId) (q : Request) (rest : List Request) (u : State),
    AgentTurn s a q rest → q.body = .resume → u = taken s a q rest → q.epoch = (s.session a).epoch →
    ((s.session a).state = .active →
      exec (.resume a) s = .next (executed a q (.resumed q.epoch) (graced a u))) ∧
    (∀ v m, (s.session a).state = .suspect →
      v = wroteSession a
        { s.session a with
          state := .active, lapseDue := none, suspectCause := none
          graceDue := some (due s.clock.ms s.mgmt.config.grace) } u →
      m = s.moderator a →
      (∀ d, m.inFlight = some d →
        exec (.resume a) s = .next (executed a q (.resumed q.epoch) (resent a d 0 v))) ∧
      (m.inFlight = none → m.pending ≠ [] →
        ∃ w, exec (.resume a) s = .next (executed a q (.resumed q.epoch) w) ∧
          Checked a (collecting a (wroteModerator a { m with retransmitCount := 0 } v)) w) ∧
      (m.inFlight = none → m.pending = [] →
        exec (.resume a) s = .next
          (executed a q (.resumed q.epoch) (wroteModerator a { m with state := .empty, retransmitCount := 0 } v))))

/-- CLOSE with the current epoch, the expiry of the lapse timer and EVICT_AGENT each make the session RETIRING with their
own cause; CLOSE keeps its tag and is not answered, the lapse sets SESSION_LAPSE, and EVICT_AGENT ends DONE or is refused
BAD_AGENT, NOT_OPEN or ALREADY_RETIRING (R89, R90, R91, R92). An expiry of a lapse timer that does not run in SUSPECT, or
whose due time is not reached, changes nothing (R89, R94; log entries 1 and 15). -/
def Obligations.CloseLapseAndEvictionRetireTheSession : Prop :=
  (∀ (s : State) (a : AgentId) (q : Request) (rest : List Request),
    AgentTurn s a q rest → q.body = .close → q.epoch = (s.session a).epoch →
    (s.session a).state = .active ∨ (s.session a).state = .suspect →
    exec (.close a) s = .next (unanswered a (retired a .agentClose (some q.tag) (taken s a q rest)))) ∧
  (∀ (s : State) (a : AgentId) (d : Time), s.resetN = true → (s.session a).state = .suspect →
    (s.session a).lapseDue = some d → Reached s.clock.ms d →
    exec (.lapseTimerExpiry a) s = .next (flagged 2 (retired a .lapsed none s))) ∧
  (∀ (s : State) (a : AgentId),
    ¬ ((s.session a).state = .suspect ∧ ∃ d ∈ (s.session a).lapseDue, Reached s.clock.ms d) →
    exec (.lapseTimerExpiry a) s = .next s) ∧
  (∀ (s : State) (upper : BitVec 24) (t : State), s.resetN = true → s.mgmt.busy = none → t = issued 0x03 s →
    (7 < s.mgmt.arg0.toNat → exec (.evictAgent upper) s = .next (rejected .badAgent t)) ∧
    (∀ a : AgentId, s.mgmt.arg0.toNat = a.val →
      ((s.session a).state = .closed → exec (.evictAgent upper) s = .next (rejected .notOpen t)) ∧
      ((s.session a).state = .retiring → exec (.evictAgent upper) s = .next (rejected .alreadyRetiring t)) ∧
      ((s.session a).state = .active ∨ (s.session a).state = .suspect →
        exec (.evictAgent upper) s = .next (done 0 (retired a .evicted none t)))))

/-- The expiry of the grace timer makes an ACTIVE session SUSPECT with cause QUIET, and a link-down makes it SUSPECT with
cause LINK_LOST after emptying the port and being counted (R85, R86, R87, R134); a link-up, and a link-down that finds the
link DOWN, change nothing else (R133). An expiry of a grace timer that does not run in ACTIVE, or whose due time is not
reached, changes nothing (R85, R94; log entries 1 and 15). -/
def Obligations.QuietAndLinkLossSuspendTheSession : Prop :=
  ∀ (s : State) (a : AgentId), s.resetN = true →
    (∀ d, (s.session a).state = .active → (s.session a).graceDue = some d → Reached s.clock.ms d →
      exec (.graceTimerExpiry a) s = .next (suspected a .quiet s)) ∧
    (¬ ((s.session a).state = .active ∧ ∃ d ∈ (s.session a).graceDue, Reached s.clock.ms d) →
      exec (.graceTimerExpiry a) s = .next s) ∧
    (∀ t, (s.port a).linkUp = true →
      t = counted (.agent a .linkDowns)
        { s with
          ports := Per.put s.ports a
            { s.port a with
              linkUp := false, inbound := [], outbound := [], reserved := false, digestPlace := none
              transmitting := none } } →
      ((s.session a).state = .active → exec (.linkDown a) s = .next (suspected a .linkLost t)) ∧
      ((s.session a).state ≠ .active → exec (.linkDown a) s = .next t)) ∧
    ((s.port a).linkUp = false → exec (.linkDown a) s = .next s) ∧
    exec (.linkUp a) s = .next { s with ports := Per.put s.ports a { s.port a with linkUp := true } }

/-! ### Sweeps -/

/-- A teardown step frees the agent's membership with the lowest stamp: from a sound LIVE record as a RELEASE or a CANCEL
would, with the grant pass, and from a QUARANTINED slot without; a failed check frees nothing (R100 to R103). A step that
finds no membership completes the job and closes the session (R74, R93, R104). -/
def Obligations.TeardownFreesTheLowestStampFirst : Prop :=
  ∀ (s : State) (a : AgentId) (rest : List SweepJob) (u : State),
    SweepTurn s (.teardown a) rest → u = begun .sweep s →
    ((∀ e ∈ u.dir.pool, e.2.agent ≠ a) → exec .teardownStep s = .next (ended (closed a (jobDone u)))) ∧
    (∀ i m, (i, m) ∈ u.dir.pool → m.agent = a → u.member i = some m →
      (∀ e ∈ u.dir.pool, e.2.agent = a → e = (i, m) ∨ m.stamp < e.2.stamp) →
      (m.checkOk = false → exec .teardownStep s = .next (ended (halted .membershipFault u))) ∧
      (∀ r, m.checkOk = true → u.slot m.handle = some (.live r) →
        (u.verify r = .recordFault → exec .teardownStep s = .next (ended (quarantined m.handle r u))) ∧
        (u.verify r = .memberFault → exec .teardownStep s = .next (ended (halted .membershipFault u))) ∧
        (u.verify r = .sound → m.role = .hold →
          exec .teardownStep s = .next (ended ((u.removeHold m.handle i).grantPass m.handle))) ∧
        (u.verify r = .sound → m.role = .wait →
          exec .teardownStep s = .next (ended ((u.removeWait m.handle i).grantPass m.handle)))) ∧
      (∀ c r, m.checkOk = true → u.slot m.handle = some (.quarantined c r) →
        exec .teardownStep s = .next (ended (detached i m u))))

/-- A cleanup step frees the lowest-indexed membership that names the slot and tells its agent that the record is lost,
unless that agent is RETIRING; a failed check halts the directory (R106, R108). A step that finds no membership marks the
slot cleaned and completes the job (R107). -/
def Obligations.CleanupFreesTheLowestIndexFirst : Prop :=
  ∀ (s : State) (h : Nat) (c : Bool) (r : Record) (rest : List SweepJob) (u : State),
    SweepTurn s (.cleanup h) rest → u = begun .sweep s → u.slot h = some (.quarantined c r) →
    ((∀ e ∈ u.dir.pool, e.2.handle ≠ h) →
      exec .cleanupStep s = .next
        (ended { jobDone u with
          dir := { u.dir with slots := Table.put u.dir.slots h (.quarantined true r) } })) ∧
    (∀ i m, TablesCanonical s → (i, m) ∈ u.dir.pool → m.handle = h →
      (∀ e ∈ u.dir.pool, e.2.handle = h → i ≤ e.1) →
      (m.checkOk = false → exec .cleanupStep s = .next (ended (halted .membershipFault u))) ∧
      (m.checkOk = true → (s.session m.agent).state = .active ∨ (s.session m.agent).state = .suspect →
        exec .cleanupStep s = .next (ended (detached i m (u.notify m.agent (lostOf h m))))) ∧
      (m.checkOk = true → (s.session m.agent).state = .retiring →
        exec .cleanupStep s = .next (ended (detached i m u))))

/-! ### Notifications and digests -/

/-- What a notification makes of the moderator it reaches (R113, R114, R116, R117). -/
def Obligations.NotificationIsQueuedDroppedOrLost : Prop :=
  ∀ (s : State) (a : AgentId) (n : Notification) (m : Moderator) (joined lost : State), m = s.moderator a →
    joined = wroteModerator a { m with pending := m.pending ++ [n] } s →
    lost = wroteModerator a { m with overflow := .unreported } s →
    (m.accepting = false → s.notify a n = s) ∧
    (m.accepting = true → places m < 64 →
      (m.state = .empty → Checked a (collecting a joined) (s.notify a n)) ∧
      (m.state = .collecting → Checked a joined (s.notify a n)) ∧
      (m.state = .outstanding ∨ m.state = .stalled → s.notify a n = joined)) ∧
    (m.accepting = true → 64 ≤ places m →
      (m.state = .collecting → s.notify a n = emitted a lost) ∧
      (m.state = .outstanding ∨ m.state = .stalled → s.notify a n = lost))

/-- The expiry of the hold timer emits a digest (R117, R118); that of the retransmit timer resends the digest in flight, or
at the limit stalls the moderator and makes an ACTIVE session SUSPECT with cause NO_ACK (R88, R123, R124); FLUSH emits a
digest from COLLECTING and changes nothing else (R119). An expiry of a timer that does not run in COLLECTING or
OUTSTANDING, or whose due time is not reached, changes nothing (R117, R123; log entries 1 and 15). -/
def Obligations.ModeratorTimersAndFlushSendDigests : Prop :=
  (∀ (s : State) (a : AgentId) (d : Time), s.resetN = true → (s.moderator a).state = .collecting →
    (s.moderator a).holdDue = some d → Reached s.clock.us d →
    exec (.holdTimerExpiry a) s = .next (emitted a s)) ∧
  (∀ (s : State) (a : AgentId),
    (¬ ((s.moderator a).state = .collecting ∧ ∃ d ∈ (s.moderator a).holdDue, Reached s.clock.us d) →
      exec (.holdTimerExpiry a) s = .next s) ∧
    (¬ ((s.moderator a).state = .outstanding ∧ ∃ d ∈ (s.moderator a).retransmitDue, Reached s.clock.ms d) →
      exec (.retransmitTimerExpiry a) s = .next s)) ∧
  (∀ (s : State) (a : AgentId) (d : Time) (g : Digest), s.resetN = true → (s.moderator a).state = .outstanding →
    (s.moderator a).retransmitDue = some d → Reached s.clock.ms d → (s.moderator a).inFlight = some g →
    ((s.moderator a).retransmitCount < s.mgmt.config.retransmitLimit.toNat →
      exec (.retransmitTimerExpiry a) s = .next (resent a g ((s.moderator a).retransmitCount + 1) s)) ∧
    (s.mgmt.config.retransmitLimit.toNat ≤ (s.moderator a).retransmitCount →
      ((s.session a).state = .active →
        exec (.retransmitTimerExpiry a) s = .next (suspected a .noAck s)) ∧
      ((s.session a).state ≠ .active →
        exec (.retransmitTimerExpiry a) s = .next
          (wroteModerator a { s.moderator a with state := .stalled, retransmitDue := none } s)))) ∧
  (∀ (s : State) (a : AgentId) (q : Request) (rest : List Request), AgentTurn s a q rest → q.body = .flush →
    q.epoch = (s.session a).epoch → (s.session a).state = .active ∨ (s.session a).state = .suspect →
    ((s.moderator a).state = .collecting →
      exec (.flush a) s = .next (executed a q .flushed (emitted a (taken s a q rest)))) ∧
    ((s.moderator a).state ≠ .collecting →
      exec (.flush a) s = .next (executed a q .flushed (taken s a q rest))))

/-- An ACK is reported to the Session Controller (R83, R136) and judged by the first case of R121 that applies; an accepted
one retires the digest in flight, and the moderator goes on by its state (R122). -/
def Obligations.AckIsJudgedByTheFirstCase : Prop :=
  ∀ (s : State) (a : AgentId) (frame : List Byte) (n : Byte) (e : Epoch) (t : State) (m : Moderator),
    s.resetN = true → (s.port a).linkUp = true → readFrame frame = some (.ack n e) → t = heard a e s →
    m = s.moderator a →
    (m.accepting = false → exec (.ack a frame) s = .next t) ∧
    (m.accepting = true → e ≠ m.epoch → exec (.ack a frame) s = .next (counted (.agent a .acksIgnored) t)) ∧
    (m.accepting = true → e = m.epoch → n + 1 = m.number → exec (.ack a frame) s = .next t) ∧
    (m.accepting = true → e = m.epoch → n + 1 ≠ m.number → (∀ d ∈ m.inFlight, n ≠ d.number) →
      exec (.ack a frame) s = .next (counted (.agent a .acksIgnored) t)) ∧
    (∀ d, m.accepting = true → e = m.epoch → n + 1 ≠ m.number → m.inFlight = some d → n = d.number →
      (m.state = .outstanding → m.pending = [] →
        exec (.ack a frame) s = .next (wroteModerator a { acknowledged d m with state := .empty } t)) ∧
      (m.state = .outstanding → m.pending ≠ [] →
        ∃ w, exec (.ack a frame) s = .next w ∧ Checked a (collecting a (wroteModerator a (acknowledged d m) t)) w) ∧
      (m.state = .stalled →
        exec (.ack a frame) s = .next (wroteModerator a (acknowledged d m) t)))

/-! ### Frames -/

/-- A KEEPALIVE restarts the grace timer when it arrives with the current epoch in ACTIVE, and otherwise has no effect
(R84). -/
def Obligations.KeepaliveRestartsTheGraceTimer : Prop :=
  ∀ (s : State) (a : AgentId) (frame : List Byte) (e : Epoch),
    s.resetN = true → (s.port a).linkUp = true → readFrame frame = some (.keepalive e) →
    ((s.session a).state = .active → e = (s.session a).epoch →
      exec (.keepalive a frame) s = .next (graced a s)) ∧
    ((s.session a).state ≠ .active ∨ e ≠ (s.session a).epoch → exec (.keepalive a frame) s = .next s)

/-- A frame with a wrong CRC, of another type or of a wrong length is discarded and counted, and reaches no block (R135);
and the bodies found malformed are those of R140. The CRC is that of R135, bit by bit and by its check value.
While the link is DOWN no frame is received, and none changes anything (R133). Which of the three rows brings a frame makes
no difference, its bytes decide (the model's choice, log entry 9). -/
def Obligations.FramesAndBodiesAreChecked : Prop :=
  (∀ (s : State) (a : AgentId) (frame : List Byte),
    ((s.port a).linkUp = false → exec (.request a frame) s = .next s) ∧
      exec (.keepalive a frame) s = exec (.request a frame) s ∧ exec (.ack a frame) s = exec (.request a frame) s) ∧
  (∀ (s : State) (a : AgentId) (frame : List Byte), s.resetN = true → (s.port a).linkUp = true →
    readFrame frame = none →
    exec (.keepalive a frame) s = .next (counted (.agent a .framesDiscarded) s) ∧
      exec (.ack a frame) s = .next (counted (.agent a .framesDiscarded) s) ∧
      exec (.request a frame) s = .next (counted (.agent a .framesDiscarded) s)) ∧
  (∀ (c : List Byte) (x y : Byte), x ++ y ≠ crc c → readFrame (c ++ [x, y]) = none) ∧
  (∀ (t : Byte) (c : List Byte), t ≠ 1 → t ≠ 2 → t ≠ 3 → readFrame (sealFrame (t :: c)) = none) ∧
  (∀ (c : List Byte), (readFrame (sealFrame (1 :: c)) = none ↔ c.length < 5)) ∧
  (∀ (t : Byte) (c : List Byte), t = 2 ∨ t = 3 → (readFrame (sealFrame (t :: c)) = none ↔ c.length ≠ 3)) ∧
  (∀ x : RawRequest, x.parse = none ↔ Malformed x) ∧
  (∀ c : List Byte, crc c = crcOf c) ∧ crcOf [0x31, 0x32, 0x33, 0x34, 0x35, 0x36, 0x37, 0x38, 0x39] = 0x29B1

/-- A REQUEST that the replay cache answers is answered from it and not carried out (R137, R138); one whose tag is queued
or in execution is discarded and counted (R139). The target of a malformed request is the model's reading (log entry
10). What the cache holds: an entry of the same tag is removed, whatever its kind and target; a new tag displaces the
oldest of 16; the new entry is the newest; and there are never more than 16 (R142). -/
def Obligations.RequestIsReplayedOrDiscardedAsADuplicate : Prop :=
  (∀ (e : CacheEntry) (cache : List CacheEntry), cache.length ≤ 16 →
    ((∃ x ∈ cache, x.tag = e.tag) →
      enterCache e cache = cache.filter (fun x => decide (x.tag ≠ e.tag)) ++ [e]) ∧
    ((∀ x ∈ cache, x.tag ≠ e.tag) →
      (cache.length < 16 → enterCache e cache = cache ++ [e]) ∧
      (cache.length = 16 → enterCache e cache = cache.drop 1 ++ [e])) ∧
    (enterCache e cache).length ≤ 16) ∧
  ∀ (s : State) (a : AgentId) (frame : List Byte) (x : RawRequest) (t : State),
    s.resetN = true → (s.port a).linkUp = true → readFrame frame = some (.request x) → t = heard a x.epoch s →
    (∀ e, ((s.port a).replay.map CacheEntry.tag).Nodup → Replays s a x e →
      (Room s a →
        exec (.request a frame) s = .next (counted (.agent a .replays) (appended a x e.result t))) ∧
      (¬ Room s a → exec (.request a frame) s = .next (counted (.agent a .framesDiscarded) t))) ∧
    ((∀ e, ¬ Replays s a x e) → Duplicate s a x →
      exec (.request a frame) s = .next (counted (.agent a .framesDiscarded) t))

/-- A REQUEST that is neither replayed nor a duplicate is refused by the session judgment (R78, R140), or BAD_REQUEST
(R140), or BUSY (R141), or it joins the tail of the inbound queue (R137, R141). The answer to an unknown kind in SUSPECT
and RETIRING is the model's reading (log entry 11). -/
def Obligations.RequestIsRefusedOrJoinsTheInboundQueue : Prop :=
  ∀ (s : State) (a : AgentId) (frame : List Byte) (x : RawRequest) (t : State),
    s.resetN = true → (s.port a).linkUp = true → readFrame frame = some (.request x) → t = heard a x.epoch s →
    (∀ e, ¬ Replays s a x e) → ¬ Duplicate s a x →
    (∀ r, judged (s.session a) (ReqKind.ofCode x.kind) x.epoch = some r →
      exec (.request a frame) s = .next (answeredOnArrival a x r t)) ∧
    (judged (s.session a) (ReqKind.ofCode x.kind) x.epoch = none → Malformed x →
      exec (.request a frame) s = .next (answeredOnArrival a x .badRequest t)) ∧
    (∀ q, judged (s.session a) (ReqKind.ofCode x.kind) x.epoch = none → x.parse = some q →
      (16 ≤ (s.port a).inbound.length → exec (.request a frame) s = .next (answeredOnArrival a x .busy t)) ∧
      ((s.port a).inbound.length < 16 →
        exec (.request a frame) s = .next
          { t with ports := Per.put s.ports a { s.port a with inbound := (s.port a).inbound ++ [q] } }))

/-- An idle transmitter on an UP link begins the waiting digest, otherwise the head response, otherwise nothing; it is not
interrupted, and at the end of the frame it is idle (R145). -/
def Obligations.TransmitterSendsTheDigestFirst : Prop :=
  ∀ (s : State) (a : AgentId), s.resetN = true →
    ((s.port a).linkUp = true → (s.port a).transmitting = none →
      (∀ d, (s.port a).digestPlace = some d →
        exec (.transmitFrame a) s = .next
          { s with
            ports := Per.put s.ports a { s.port a with digestPlace := none, transmitting := some d.frame } }) ∧
      (∀ r rest, (s.port a).digestPlace = none → (s.port a).outbound = r :: rest →
        exec (.transmitFrame a) s = .next
          { s with
            ports := Per.put s.ports a { s.port a with outbound := rest, transmitting := some r.frame } }) ∧
      ((s.port a).digestPlace = none → (s.port a).outbound = [] → exec (.transmitFrame a) s = .next s)) ∧
    ((s.port a).linkUp = false ∨ (s.port a).transmitting ≠ none → exec (.transmitFrame a) s = .next s) ∧
    exec (.frameEnd a) s = .next { s with ports := Per.put s.ports a { s.port a with transmitting := none } }

/-! ### Management -/

/-- ENABLE_DIRECTORY makes an OFFLINE directory ONLINE and is otherwise refused (R16); LOAD_TOKEN_FLOOR sets next token, or
is refused by the first check of R26 that applies. -/
def Obligations.DirectCommandsActOnTheDirectory : Prop :=
  ∀ (s : State) (upper : BitVec 24), s.resetN = true → s.mgmt.busy = none →
    (∀ t, t = issued 0x01 s →
      (s.dir.state = .offline →
        exec (.enableDirectory upper) s = .next (done 0 { t with dir := { s.dir with state := .online } })) ∧
      (s.dir.state = .online ∨ s.dir.state = .halted →
        exec (.enableDirectory upper) s = .next (rejected .notOffline t))) ∧
    (∀ (t : State) (value : Token), t = issued 0x02 s → value = s.mgmt.arg1 ++ s.mgmt.arg0 →
      (s.dir.state = .online ∨ s.dir.state = .halted →
        exec (.loadTokenFloor upper) s = .next (rejected .notOffline t)) ∧
      (s.dir.state = .offline → s.dir.nextToken = 0 →
        exec (.loadTokenFloor upper) s = .next (rejected .sequenceExhausted t)) ∧
      (s.dir.state = .offline → s.dir.nextToken ≠ 0 → value < s.dir.nextToken →
        exec (.loadTokenFloor upper) s = .next (rejected .belowFloor t)) ∧
      (s.dir.state = .offline → s.dir.nextToken ≠ 0 → s.dir.nextToken ≤ value →
        exec (.loadTokenFloor upper) s = .next (done 0 { t with dir := { s.dir with nextToken := value } })))

/-- A write to CMD while a command is BUSY is lost and sets COMMAND_REFUSED; one that finds the state IDLE with a code that
names no command ends REFUSED with BAD_COMMAND (R166); and one with the code of an arbiter command makes it BUSY with copies
of the arguments (R165, R168). -/
def Obligations.CommandWritesAreLostRefusedOrIssued : Prop :=
  ∀ (s : State) (upper : BitVec 24) (value : Word) (c : ArbiterCommand), s.resetN = true →
    (s.mgmt.busy ≠ none → ∀ i ∈ commandWrites upper value c, exec i s = .next (flagged 4 s)) ∧
    (s.mgmt.busy = none →
      (value.setWidth 8 ∉ [0x01#8, 0x02, 0x03, 0x10, 0x11, 0x12, 0x1F] →
        exec (.badCommand value) s = .next (rejected .badCommand (issued (value.setWidth 8) s))) ∧
      (∃ t, t = issued (codeOf c) s ∧
        exec (.arbiterCommandIssue c upper) s = .next
          { t with
            mgmt := { t.mgmt with busy := some { command := c, arg0 := s.mgmt.arg0, arg1 := s.mgmt.arg1 } } }))

/-- A write to a configuration register within the range of Table 10-2 stores the value, which the register then reads, and
keeps every other one; a write outside the range changes nothing but the CONFIG_REJECT flag (R163). -/
def Obligations.ConfigurationWriteIsRangeChecked : Prop :=
  ∀ (s : State) (r : ConfigReg) (value : Word), s.resetN = true →
    ((range r).1 ≤ value.toNat ∧ value.toNat ≤ (range r).2 →
      ∃ c, exec (.configurationWrite r value) s = .next { s with mgmt := { s.mgmt with config := c } } ∧
        State.readRegister { s with mgmt := { s.mgmt with config := c } } (configAddress r) = value ∧
        ∀ r', r' ≠ r →
          State.readRegister { s with mgmt := { s.mgmt with config := c } } (configAddress r') =
            s.readRegister (configAddress r')) ∧
    (value.toNat < (range r).1 ∨ (range r).2 < value.toNat →
      exec (.configurationWrite r value) s = .next (flagged 3 s))

/-- A write of any value to a statistic clears that one counter and leaves the others (R172). -/
def Obligations.StatisticWriteClearsOneCounter : Prop :=
  ∀ (s : State) (r : StatReg) (value : Word), s.resetN = true →
    ∃ m, exec (.statisticWrite r value) s = .next { s with mgmt := m } ∧
      m = { s.mgmt with stats := m.stats, quarantines := m.quarantines } ∧
      State.readRegister { s with mgmt := m } (statAddress r) = 0 ∧
      ∀ r', r' ≠ r →
        State.readRegister { s with mgmt := m } (statAddress r') = s.readRegister (statAddress r')

/-- The fault summary is cleared where a 1 is written, the enables are set as written, and ALERT_N follows both (R157,
R158); while RESET_N is low it is released (R158). A read of the low half of next token captures it whole for the high
half (R162); the argument registers store what is written, and a write that R161 ignores changes nothing. And what every
address reads, in every state: the fields of Tables 11-10 to 11-12 with the codes of R176, and 0 at an address that the map
does not assign (R161, R162); at which address each configuration value and statistic stands, and that counting an event
writes one counter alone. -/
def Obligations.OtherRegisterAccesses : Prop :=
  (∀ s : State, DeviceReads s ∧ WindowReads s s.mgmt.window ∧
    (∀ a : AgentId, AgentReads s a (fun offset => s.readRegister (BitVec.ofNat 16 (0x0200 + 0x0100 * a.val + offset)))) ∧
    ∀ address : BitVec 16, ¬ Assigned address.toNat → s.readRegister address = 0) ∧
  (configAddress .grace = 0x0040 ∧ configAddress .lapse = 0x0044 ∧ configAddress .countThreshold = 0x0048 ∧
    configAddress .holdTime = 0x004C ∧ configAddress .retransmitInterval = 0x0050 ∧
    configAddress .retransmitLimit = 0x0054 ∧ statAddress .quarantines = 0x0038 ∧
    ∀ a : AgentId,
      (∀ o, agentAddress a o = BitVec.ofNat 16 (0x0200 + 0x0100 * a.val + o)) ∧
      configAddress (.membershipQuota a) = agentAddress a 0x20 ∧ configAddress (.waitQuota a) = agentAddress a 0x24 ∧
      ∀ (k : AgentStat) (n : Nat), statOrder[n]? = some k → statAddress (.agent a k) = agentAddress a (0x40 + 4 * n)) ∧
  (∀ (m : Management) (r : StatReg) (v : Word),
    (m.putStat r v).stat r = v ∧ (∀ r', r' ≠ r → (m.putStat r v).stat r' = m.stat r') ∧
      m.putStat r v = { m with stats := (m.putStat r v).stats, quarantines := (m.putStat r v).quarantines }) ∧
  (∀ (s : State) (r : StatReg), s.readRegister (statAddress r) = s.mgmt.stat r) ∧
  (∀ address : BitVec 16, hasOwnWrite address = true ↔
    (∃ r, address = configAddress r) ∨ (∃ r, address = statAddress r) ∨ address ∈ [0x0030#16, 0x0034, 0x0068]) ∧
  (∀ s : State, s.resetN = false → s.alertLow = false) ∧
  ∀ (s : State) (value : Word), s.resetN = true →
    (∃ f, exec (.faultSummaryWrite value) s = .next { s with mgmt := { s.mgmt with faults := f } } ∧
      ∀ i, i < 5 → f.getLsbD i = (s.mgmt.faults.getLsbD i && !value.getLsbD i)) ∧
    (∃ f, exec (.faultEnableWrite value) s = .next { s with mgmt := { s.mgmt with enables := f } } ∧
      ∀ i, i < 5 → f.getLsbD i = value.getLsbD i) ∧
    (s.alertLow = true ↔ ∃ i, i < 5 ∧ s.mgmt.faults.getLsbD i = true ∧ s.mgmt.enables.getLsbD i = true) ∧
    (∃ t, exec .ntokLo s = .next t ∧ t = { s with mgmt := { s.mgmt with holding := s.dir.nextToken } } ∧
      t.readRegister 0x0018 ++ s.readRegister 0x0014 = s.dir.nextToken) ∧
    exec (.registerWrite 0x0060 value) s = .next { s with mgmt := { s.mgmt with arg0 := value } } ∧
    exec (.registerWrite 0x0064 value) s = .next { s with mgmt := { s.mgmt with arg1 := value } } ∧
    (∀ address, hasOwnWrite address = false → address ≠ 0x0060 → address ≠ 0x0064 →
      exec (.registerWrite address value) s = .next s)

/-- BREAK_RECORD at its turn: refused by the first check of R51 that applies; a failed check ends it as Table 9-1 says; and
otherwise every holder is removed in grant order and told, the grant pass runs, and the command ends DONE with the number
of holders removed (R51). -/
def Obligations.BreakRecordRevokesEveryHolder : Prop :=
  ∀ (s : State) (c : IssuedCommand) (h : Nat) (u : State),
    ManagementTurn s c → c.command = .breakRecord → h = c.arg0.toNat → u = begun .management s →
    (4095 < h → exec .breakRecord s = .next (ended (rejected .badHandle u))) ∧
    (h ≤ 4095 → s.dir.state = .halted → exec .breakRecord s = .next (ended (rejected .halted u))) ∧
    (h ≤ 4095 → s.dir.state ≠ .halted → u.record h = none →
      exec .breakRecord s = .next (ended (rejected .notLive u))) ∧
    (∀ r, h ≤ 4095 → s.dir.state ≠ .halted → u.record h = some r →
      (u.verify r = .recordFault →
        exec .breakRecord s = .next (ended (rejected .recordFault (quarantined h r u)))) ∧
      (u.verify r = .memberFault →
        exec .breakRecord s = .next (ended (rejected .membershipFault (halted .membershipFault u)))) ∧
      (u.verify r = .sound →
        exec .breakRecord s = .next
          (ended (done r.holders.length
            ((r.holders.foldl
              (fun t i =>
                match t.member i with
                | some m => (t.removeHold h i).notify m.agent (.revoked h m.token)
                | none => t)
              u).grantPass h)))))

/-- INSPECT_RECORD at its turn: refused with the window as it was (R63), or DONE with the window of the slot's state (R64);
a failed check is REFUSED with the window of the slot as the failure left it (R152). That the window's other fields are 0
for a FREE or QUARANTINED slot is the model's choice (log entry 13). -/
def Obligations.InspectRecordWritesTheWindow : Prop :=
  ∀ (s : State) (c : IssuedCommand) (h : Nat) (u : State),
    ManagementTurn s c → c.command = .inspectRecord → h = c.arg0.toNat → u = begun .management s →
    (4095 < h → exec .inspectRecord s = .next (ended (rejected .badHandle u))) ∧
    (h ≤ 4095 → s.dir.state = .halted → exec .inspectRecord s = .next (ended (rejected .halted u))) ∧
    (h ≤ 4095 → s.dir.state ≠ .halted →
      (u.slot h = none →
        exec .inspectRecord s = .next (ended (done 0 (windowed (shownOnly h .free false) u)))) ∧
      (∀ cleaned r, u.slot h = some (.quarantined cleaned r) →
        exec .inspectRecord s = .next (ended (done 0 (windowed (shownOnly h .quarantined cleaned) u)))) ∧
      (∀ r, u.slot h = some (.live r) →
        (u.verify r = .sound →
          exec .inspectRecord s = .next (ended (done 0 (windowed (shown u h r) u)))) ∧
        (u.verify r = .recordFault →
          exec .inspectRecord s = .next
            (ended (rejected .recordFault (windowed (shownOnly h .quarantined false) (quarantined h r u))))) ∧
        (u.verify r = .memberFault →
          exec .inspectRecord s = .next
            (ended (rejected .membershipFault
              (windowed (shownOnly h .live false) (halted .membershipFault u)))))))

/-- CLEAR_QUARANTINE at its turn ends by the first check of R156 that applies: only a cleaned slot becomes FREE. -/
def Obligations.ClearQuarantineFreesACleanedSlot : Prop :=
  ∀ (s : State) (c : IssuedCommand) (h : Nat) (u : State),
    ManagementTurn s c → c.command = .clearQuarantine → h = c.arg0.toNat → u = begun .management s →
    (4095 < h → exec .clearQuarantine s = .next (ended (rejected .badHandle u))) ∧
    (h ≤ 4095 → s.dir.state = .halted → exec .clearQuarantine s = .next (ended (rejected .halted u))) ∧
    (h ≤ 4095 → s.dir.state ≠ .halted →
      (u.slot h = none → exec .clearQuarantine s = .next (ended (rejected .notQuarantined u))) ∧
      (∀ r, u.slot h = some (.live r) →
        exec .clearQuarantine s = .next (ended (rejected .notQuarantined u))) ∧
      (∀ r, u.slot h = some (.quarantined false r) →
        exec .clearQuarantine s = .next (ended (rejected .notCleaned u))) ∧
      (∀ r, u.slot h = some (.quarantined true r) →
        exec .clearQuarantine s = .next
          (ended (done 0 { u with dir := { u.dir with slots := Table.free u.dir.slots h } }))))

/-- RESET_DIRECTORY at its turn, in every directory state: what it sets in each block and what it keeps (R18, R75, R95,
R110, R129, R148, R159, R169, Table 10-4). -/
def Obligations.ResetDirectoryClosesEverything : Prop :=
  ∀ (s : State) (c : IssuedCommand), ManagementTurn s c → c.command = .resetDirectory →
    ∃ t, exec .resetDirectory s = .next t ∧
      t.dir.state = .offline ∧ t.dir.haltCause = none ∧ (∀ h, t.slot h = none) ∧ (∀ i, t.member i = none) ∧
      (∀ a, t.counts a = { holds := 0, waits := 0, upgrades := 0, nextStamp := 1 }) ∧
      t.dir.nextToken = s.dir.nextToken ∧ t.deadlines = { list := [], expiry := [] } ∧ t.clock = s.clock ∧
      t.sweep = [] ∧ t.arbiter = { lastServed := .management, operation := none } ∧
      (∀ a, t.session a =
        { state := .closed, epoch := (s.session a).epoch, suspectCause := none, retireCause := none
          graceDue := none, lapseDue := none, closeTag := none }) ∧
      (∀ a, t.moderator a =
        { state := .empty, accepting := false, epoch := 0, number := 0, retransmitCount := 0, overflow := .clear
          pending := [], inFlight := none, holdDue := none, retransmitDue := none }) ∧
      (∀ a, t.port a =
        { linkUp := (s.port a).linkUp, inbound := [], outbound := [], reserved := false, inExecution := none
          replay := [], digestPlace := none, transmitting := (s.port a).transmitting }) ∧
      t.mgmt =
        { s.mgmt with
          window :=
            { valid := false, slot := .free, cleaned := false, handle := 0, ns := 0, key := 0, mode := none
              holderCount := 0, waiterCount := 0, upgradeMember := none, members := [] }
          busy := none
          result := { code := s.mgmt.result.code, outcome := .done, reason := none, value := 0 } } ∧
      t.resetN = true ∧ t.spi = s.spi ∧ t.pending = s.pending

/-! ### Encodings -/

/-- The frame of every well-formed request reads back as that request, and the frames of an ACK and of a KEEPALIVE as
theirs, with every operand at every value (Tables 11-2 and 11-3); a reader takes the fields as they stand, whatever the
reserved bytes and the option bits that a kind does not read (R173). And every frame has the bytes of its table: requests
with their kind codes, responses with the echoed fields, the status code and the body of the status, at the length of
Table 11-6 (Tables 11-4 to 11-6 and 11-9, R174), and digests with their 16-byte entries (Tables 11-7 and 11-8, R175). -/
def Obligations.FramesReadBack : Prop :=
  (∀ r : Request, (Request.wf r = true ↔ InRange r.body)) ∧
  (∀ r : Request, InRange r.body →
    ∃ x, readFrame (Request.frame r) = some (.request x) ∧ x.tag = r.tag ∧ x.epoch = r.epoch ∧ x.parse = some r ∧
      rawTarget r.body.kind x.body = some (targetOf r.body)) ∧
  (∀ (n : Byte) (e : Epoch), readFrame (ackFrame n e) = some (.ack n e)) ∧
  (∀ e : Epoch, readFrame (keepaliveFrame e) = some (.keepalive e)) ∧
  (∀ r : Request,
    Request.frame r =
      framed ([0x01, kindCode r.body.kind] ++ bigEndian 2 r.tag.toNat ++ bigEndian 2 r.epoch.toNat ++
        requestBody r.body)) ∧
  (∀ (n : Byte) (e : Epoch), ackFrame n e = framed ([0x02, n] ++ bigEndian 2 e.toNat)) ∧
  (∀ e : Epoch, keepaliveFrame e = framed ([0x03, 0] ++ bigEndian 2 e.toNat)) ∧
  (∀ (k : ReqKind) (c : Byte), k.code = kindCode k ∧ (ReqKind.ofCode c = some k ↔ c = kindCode k)) ∧
  (∀ (k t1 t0 e1 e0 : Byte) (body : List Byte),
    readFrame (framed ([0x01, k, t1, t0, e1, e0] ++ body)) =
      some (.request { kind := k, tag := t1 ++ t0, epoch := e1 ++ e0, body := body })) ∧
  (∀ x e1 e0 : Byte, readFrame (framed [0x03, x, e1, e0]) = some (.keepalive (e1 ++ e0))) ∧
  (∀ (tag : Tag) (epoch : Epoch) (ns options reserved : Byte) (mode : Mode) (d : BitVec 16) (key : Key) (h : BitVec 16)
      (token : Token),
    (ns.toNat ≤ 15 →
      RawRequest.parse
          { kind := 0x10, tag := tag, epoch := epoch
            body := [ns, modeCode mode, options, reserved] ++ bigEndian 2 d.toNat ++ bigEndian 8 key.toNat } =
        some
          { tag := tag, epoch := epoch
            body := .acquire ns mode (options.getLsbD 0) (options.getLsbD 1) (options.getLsbD 2) d key } ∧
      RawRequest.parse
          { kind := 0x20, tag := tag, epoch := epoch, body := [ns, reserved] ++ bigEndian 8 key.toNat } =
        some { tag := tag, epoch := epoch, body := .lookup ns key }) ∧
    (h.toNat ≤ 4095 →
      RawRequest.parse
          { kind := 0x13, tag := tag, epoch := epoch
            body := bigEndian 2 h.toNat ++ bigEndian 8 token.toNat ++ [options, reserved] ++ bigEndian 2 d.toNat } =
        some { tag := tag, epoch := epoch, body := .upgrade h token (options.getLsbD 1) d })) ∧
  (∀ r : Response,
    Response.frame r =
        framed ([0x81, r.kind] ++ bigEndian 2 r.tag.toNat ++ bigEndian 2 r.epoch.toNat ++ [statusCode r.result] ++
          statusBody r.result) ∧
      (Response.frame r).length = statusLength r.result) ∧
  (∀ d : Digest,
    Digest.frame d =
        framed ([0x82, d.number] ++ bigEndian 2 d.epoch.toNat ++
          [flagsByte d.retransmitted d.overflow false false, BitVec.ofNat 8 d.entries.length] ++
          d.entries.flatMap notificationBytes) ∧
      (Digest.frame d).length = 8 + 16 * d.entries.length)

/-- A write transaction performs its write, whatever bits follow its 56, and one that ends before its last data bit
performs none; a read captures its address; the command that a write amounts to has the effect of that write (R160,
R161). A transaction begins when MCS_N falls and ends when it rises; each bit sampled joins it, its last address bit
captures the register of a read, and clocks after the 56th are ignored (R160); while RESET_N is low no bit counts, and a
transaction that POWER_ON_RESET has abandoned counts no more (R170; that it does not until MCS_N rises, log entry 21). A
whole write is its command, a read of the low half of next token is the capture, and nothing else is one. MSDO is at high
impedance while MCS_N is high (R160) and while RESET_N is low (R170); otherwise it gives the captured value, most
significant bit first, during the 32 data clocks of a read, and 0 at every other time (R160; of an abandoned transaction,
log entry 21). -/
def Obligations.TransactionsReadBack : Prop :=
  (∀ (address : BitVec 16) (value : Word) (more : List Bool),
    spiWrite (spiWriteBits address value ++ more) = some (address, value) ∧
      spiRead (spiWriteBits address value ++ more) = none) ∧
  (∀ (address : BitVec 16) (data : List Bool),
    spiRead (spiReadBits address data) = some address ∧ spiWrite (spiReadBits address data) = none) ∧
  (∀ bits : List Bool, bits.length < 56 → spiWrite bits = none) ∧
  (∀ (s : State) (address : BitVec 16) (value : Word), s.resetN = true →
    exec (s.instrOfWrite address value) s = .next (s.writeRegister address value)) ∧
  (∀ (s : State) (value : Word),
    (∀ r, s.instrOfWrite (configAddress r) value = .configurationWrite r value) ∧
    (∀ r, s.instrOfWrite (statAddress r) value = .statisticWrite r value) ∧
    s.instrOfWrite 0x0030 value = .faultSummaryWrite value ∧ s.instrOfWrite 0x0034 value = .faultEnableWrite value ∧
    (s.mgmt.busy ≠ none → s.instrOfWrite 0x0068 value = .lostCommandWrite value) ∧
    (∀ (code : Byte) (upper : BitVec 24), s.mgmt.busy = none → value = upper ++ code →
      (code = 0x01 → s.instrOfWrite 0x0068 value = .enableDirectory upper) ∧
      (code = 0x02 → s.instrOfWrite 0x0068 value = .loadTokenFloor upper) ∧
      (code = 0x03 → s.instrOfWrite 0x0068 value = .evictAgent upper) ∧
      (∀ c, code = codeOf c → s.instrOfWrite 0x0068 value = .arbiterCommandIssue c upper) ∧
      (code ∉ [0x01#8, 0x02, 0x03, 0x10, 0x11, 0x12, 0x1F] → s.instrOfWrite 0x0068 value = .badCommand value)) ∧
    ∀ address, hasOwnWrite address = false → s.instrOfWrite address value = .registerWrite address value) ∧
  (∀ (address : BitVec 16) (value : Word) (data : List Bool),
    spiWriteBits address value = wireBits 0xA2#8 ++ wireBits address ++ wireBits value ∧
    spiReadBits address data = wireBits 0xA1#8 ++ wireBits address ++ data) ∧
  (∀ s : State, s.spiSelect = { s with spi := .transaction [] 0 } ∧ s.spiRelease = { s with spi := .released }) ∧
  (∀ (s : State) (b : Bool),
    (s.resetN = false ∨ s.spi = .released ∨ s.spi = .abandoned → s.spiSample b = s) ∧
    ∀ (bits : List Bool) (v : Word), s.resetN = true → s.spi = .transaction bits v →
      (56 ≤ bits.length → s.spiSample b = s) ∧
      (∀ address, bits ++ [b] = spiReadBits address [] →
        s.spiSample b = { s with spi := .transaction (bits ++ [b]) (s.readRegister address) }) ∧
      (bits.length < 56 → (∀ address, bits ++ [b] ≠ spiReadBits address []) →
        s.spiSample b = { s with spi := .transaction (bits ++ [b]) v })) ∧
  (∀ (c : Instr) (s t : State), c ≠ .powerOnReset → exec c s = .next t → t.spi = s.spi) ∧
  (∀ s : State,
    (s.resetN = false ∨ s.spi = .released → s.msdo = none ∧ s.instrOfTransaction = none) ∧
    (s.resetN = true → s.spi = .abandoned → s.msdo = some false ∧ s.instrOfTransaction = none) ∧
    ∀ (bits : List Bool) (v : Word), s.resetN = true → s.spi = .transaction bits v →
      (bits.length < 24 → s.msdo = some false ∧ s.instrOfTransaction = none) ∧
      (56 ≤ bits.length → s.msdo = some false) ∧
      (bits.take 8 ≠ wireBits 0xA1#8 → s.msdo = some false ∧ (bits.length < 56 → s.instrOfTransaction = none)) ∧
      (bits.take 8 ≠ wireBits 0xA1#8 → bits.take 8 ≠ wireBits 0xA2#8 → s.instrOfTransaction = none) ∧
      (∀ (address : BitVec 16) (value : Word) (more : List Bool), bits = spiWriteBits address value ++ more →
        s.instrOfTransaction = some (s.instrOfWrite address value)) ∧
      ∀ (address : BitVec 16) (data : List Bool), bits = spiReadBits address data →
        s.instrOfTransaction = (if address = 0x0014 then some .ntokLo else none) ∧
        (data.length < 32 → s.msdo = some (v.getMsbD data.length)))

/-! ### What every step keeps -/

/-- The record slots and the membership entries keep their canonical form (R1, R10). -/
def Obligations.StepKeepsTheTablesCanonical : Prop :=
  ∀ s t : State, TablesCanonical s → step s = .next t → TablesCanonical t

/-- The ports keep their bounds (R134, R139, R141 to R143), and between two steps no place is reserved, no tag is in
execution and the engine is free: a step is a whole turn (spec/95; the model's reading, log entry 6). -/
def Obligations.StepKeepsThePorts : Prop := ∀ s t : State, PortsOk s → step s = .next t → PortsOk t

/-- Sessions, moderators, TEARDOWN jobs and configuration values keep agreeing (Tables 5-1, 7-2 and 10-2; R96, R112). -/
def Obligations.StepKeepsTheSessions : Prop := ∀ s t : State, SessionsOk s → step s = .next t → SessionsOk t

/-- The directory state keeps agreeing with the halt cause and with what may exist while OFFLINE (R14, R17, R79). -/
def Obligations.StepKeepsTheDirectoryState : Prop :=
  ∀ s t : State, SessionsOk s → DirectoryStateOk s → step s = .next t → DirectoryStateOk t

/-- There stays at most one deadline entry for a pool index, and the list stays in order (R65, R66). -/
def Obligations.StepKeepsTheDeadlines : Prop := ∀ s t : State, DeadlinesOk s → step s = .next t → DeadlinesOk t

/-- Records, memberships, counts and CLEANUP jobs keep agreeing (R2 to R6, R10, R13, R54 to R56, R96, R98). -/
def Obligations.StepKeepsTheMemberships : Prop :=
  ∀ s t : State, SessionsOk s → DirectoryStateOk s → MembershipsOk s → CleanupJobsOk s → step s = .next t →
    MembershipsOk t ∧ CleanupJobsOk t

/-- Every token held stays unique, is not 0 and lies below next token; and next token never falls but at power-on reset
(R24, R25, R26). -/
def Obligations.StepKeepsTheTokens : Prop :=
  ∀ s t : State, TokensOk s → step s = .next t →
    TokensOk t ∧ (s.pending.head? ≠ some .powerOnReset → TokenRises s.dir.nextToken t.dir.nextToken)

/-- A session moves along the arcs of Figure 5-1 only; the epoch changes only when it opens, and the directory leaves
HALTED only by a reset (R17, R76, R77). -/
def Obligations.SessionsMoveAlongTheirArcs : Prop :=
  ∀ (s t : State) (c : Instr) (a : AgentId), SessionsOk s → exec c s = .next t → c ≠ .powerOnReset →
    c ≠ .resetDirectory →
    sessionArc (s.session a).state (t.session a).state = true ∧
      ((t.session a).state = .closed → (s.session a).state = .closed ∨ (s.session a).state = .retiring) ∧
      ((t.session a).epoch ≠ (s.session a).epoch → (s.session a).state = .closed ∧ (t.session a).state = .active) ∧
      (s.dir.state = .halted → t.dir.state = .halted ∧ t.dir.haltCause = s.dir.haltCause)
end

