-- ==== Sys2Proof/Laws/State.lean ====
section
/-! SUPPORT. Each named write of the state, field by field: what it writes and what it leaves, by `rfl`, so that no proof
unfolds a record update. -/

namespace Sys2Proof.Machine

variable (s : State)

/-! ### putSession -/

@[simp] theorem State.putSession_resetN (a : AgentId) (x : Session) : (s.putSession a x).resetN = s.resetN := rfl
@[simp] theorem State.putSession_dir (a : AgentId) (x : Session) : (s.putSession a x).dir = s.dir := rfl
@[simp] theorem State.putSession_arbiter (a : AgentId) (x : Session) : (s.putSession a x).arbiter = s.arbiter := rfl
@[simp] theorem State.putSession_deadlines (a : AgentId) (x : Session) :
    (s.putSession a x).deadlines =
      s.deadlines := rfl
@[simp] theorem State.putSession_clock (a : AgentId) (x : Session) : (s.putSession a x).clock = s.clock := rfl
@[simp] theorem State.putSession_sessions (a : AgentId) (x : Session) :
    (s.putSession a x).sessions =
      Per.put s.sessions a x := rfl
@[simp] theorem State.putSession_sweep (a : AgentId) (x : Session) : (s.putSession a x).sweep = s.sweep := rfl
@[simp] theorem State.putSession_moderators (a : AgentId) (x : Session) :
    (s.putSession a x).moderators =
      s.moderators := rfl
@[simp] theorem State.putSession_ports (a : AgentId) (x : Session) : (s.putSession a x).ports = s.ports := rfl
@[simp] theorem State.putSession_mgmt (a : AgentId) (x : Session) : (s.putSession a x).mgmt = s.mgmt := rfl
@[simp] theorem State.putSession_spi (a : AgentId) (x : Session) : (s.putSession a x).spi = s.spi := rfl
@[simp] theorem State.putSession_upsets (a : AgentId) (x : Session) : (s.putSession a x).upsets = s.upsets := rfl
@[simp] theorem State.putSession_pending (a : AgentId) (x : Session) : (s.putSession a x).pending = s.pending := rfl

/-! ### putModerator -/

@[simp] theorem State.putModerator_resetN (a : AgentId) (x : Moderator) :
    (s.putModerator a x).resetN =
      s.resetN := rfl
@[simp] theorem State.putModerator_dir (a : AgentId) (x : Moderator) : (s.putModerator a x).dir = s.dir := rfl
@[simp] theorem State.putModerator_arbiter (a : AgentId) (x : Moderator) :
    (s.putModerator a x).arbiter =
      s.arbiter := rfl
@[simp] theorem State.putModerator_deadlines (a : AgentId) (x : Moderator) :
    (s.putModerator a x).deadlines =
      s.deadlines := rfl
@[simp] theorem State.putModerator_clock (a : AgentId) (x : Moderator) : (s.putModerator a x).clock = s.clock := rfl
@[simp] theorem State.putModerator_sessions (a : AgentId) (x : Moderator) :
    (s.putModerator a x).sessions =
      s.sessions := rfl
@[simp] theorem State.putModerator_sweep (a : AgentId) (x : Moderator) : (s.putModerator a x).sweep = s.sweep := rfl
@[simp] theorem State.putModerator_moderators (a : AgentId) (x : Moderator) :
    (s.putModerator a x).moderators =
      Per.put s.moderators a x := rfl
@[simp] theorem State.putModerator_ports (a : AgentId) (x : Moderator) : (s.putModerator a x).ports = s.ports := rfl
@[simp] theorem State.putModerator_mgmt (a : AgentId) (x : Moderator) : (s.putModerator a x).mgmt = s.mgmt := rfl
@[simp] theorem State.putModerator_spi (a : AgentId) (x : Moderator) : (s.putModerator a x).spi = s.spi := rfl
@[simp] theorem State.putModerator_upsets (a : AgentId) (x : Moderator) :
    (s.putModerator a x).upsets =
      s.upsets := rfl
@[simp] theorem State.putModerator_pending (a : AgentId) (x : Moderator) :
    (s.putModerator a x).pending =
      s.pending := rfl

/-! ### putPort -/

@[simp] theorem State.putPort_resetN (a : AgentId) (x : Port) : (s.putPort a x).resetN = s.resetN := rfl
@[simp] theorem State.putPort_dir (a : AgentId) (x : Port) : (s.putPort a x).dir = s.dir := rfl
@[simp] theorem State.putPort_arbiter (a : AgentId) (x : Port) : (s.putPort a x).arbiter = s.arbiter := rfl
@[simp] theorem State.putPort_deadlines (a : AgentId) (x : Port) : (s.putPort a x).deadlines = s.deadlines := rfl
@[simp] theorem State.putPort_clock (a : AgentId) (x : Port) : (s.putPort a x).clock = s.clock := rfl
@[simp] theorem State.putPort_sessions (a : AgentId) (x : Port) : (s.putPort a x).sessions = s.sessions := rfl
@[simp] theorem State.putPort_sweep (a : AgentId) (x : Port) : (s.putPort a x).sweep = s.sweep := rfl
@[simp] theorem State.putPort_moderators (a : AgentId) (x : Port) : (s.putPort a x).moderators = s.moderators := rfl
@[simp] theorem State.putPort_ports (a : AgentId) (x : Port) : (s.putPort a x).ports = Per.put s.ports a x := rfl
@[simp] theorem State.putPort_mgmt (a : AgentId) (x : Port) : (s.putPort a x).mgmt = s.mgmt := rfl
@[simp] theorem State.putPort_spi (a : AgentId) (x : Port) : (s.putPort a x).spi = s.spi := rfl
@[simp] theorem State.putPort_upsets (a : AgentId) (x : Port) : (s.putPort a x).upsets = s.upsets := rfl
@[simp] theorem State.putPort_pending (a : AgentId) (x : Port) : (s.putPort a x).pending = s.pending := rfl

/-! ### putSpi -/

@[simp] theorem State.putSpi_resetN (x : SpiPort) : (s.putSpi x).resetN = s.resetN := rfl
@[simp] theorem State.putSpi_dir (x : SpiPort) : (s.putSpi x).dir = s.dir := rfl
@[simp] theorem State.putSpi_arbiter (x : SpiPort) : (s.putSpi x).arbiter = s.arbiter := rfl
@[simp] theorem State.putSpi_deadlines (x : SpiPort) : (s.putSpi x).deadlines = s.deadlines := rfl
@[simp] theorem State.putSpi_clock (x : SpiPort) : (s.putSpi x).clock = s.clock := rfl
@[simp] theorem State.putSpi_sessions (x : SpiPort) : (s.putSpi x).sessions = s.sessions := rfl
@[simp] theorem State.putSpi_sweep (x : SpiPort) : (s.putSpi x).sweep = s.sweep := rfl
@[simp] theorem State.putSpi_moderators (x : SpiPort) : (s.putSpi x).moderators = s.moderators := rfl
@[simp] theorem State.putSpi_ports (x : SpiPort) : (s.putSpi x).ports = s.ports := rfl
@[simp] theorem State.putSpi_mgmt (x : SpiPort) : (s.putSpi x).mgmt = s.mgmt := rfl
@[simp] theorem State.putSpi_spi (x : SpiPort) : (s.putSpi x).spi = x := rfl
@[simp] theorem State.putSpi_upsets (x : SpiPort) : (s.putSpi x).upsets = s.upsets := rfl
@[simp] theorem State.putSpi_pending (x : SpiPort) : (s.putSpi x).pending = s.pending := rfl

/-! ### putCounts -/

@[simp] theorem State.putCounts_resetN (a : AgentId) (x : Counts) : (s.putCounts a x).resetN = s.resetN := rfl
@[simp] theorem State.putCounts_dir_state (a : AgentId) (x : Counts) :
    (s.putCounts a x).dir.state =
      s.dir.state := rfl
@[simp] theorem State.putCounts_dir_haltCause (a : AgentId) (x : Counts) :
    (s.putCounts a x).dir.haltCause =
      s.dir.haltCause := rfl
@[simp] theorem State.putCounts_dir_slots (a : AgentId) (x : Counts) :
    (s.putCounts a x).dir.slots =
      s.dir.slots := rfl
@[simp] theorem State.putCounts_dir_pool (a : AgentId) (x : Counts) : (s.putCounts a x).dir.pool = s.dir.pool := rfl
@[simp] theorem State.putCounts_dir_nextToken (a : AgentId) (x : Counts) :
    (s.putCounts a x).dir.nextToken =
      s.dir.nextToken := rfl
@[simp] theorem State.putCounts_dir_counts (a : AgentId) (x : Counts) :
    (s.putCounts a x).dir.counts =
      Per.put s.dir.counts a x := rfl
@[simp] theorem State.putCounts_arbiter (a : AgentId) (x : Counts) : (s.putCounts a x).arbiter = s.arbiter := rfl
@[simp] theorem State.putCounts_deadlines (a : AgentId) (x : Counts) :
    (s.putCounts a x).deadlines =
      s.deadlines := rfl
@[simp] theorem State.putCounts_clock (a : AgentId) (x : Counts) : (s.putCounts a x).clock = s.clock := rfl
@[simp] theorem State.putCounts_sessions (a : AgentId) (x : Counts) : (s.putCounts a x).sessions = s.sessions := rfl
@[simp] theorem State.putCounts_sweep (a : AgentId) (x : Counts) : (s.putCounts a x).sweep = s.sweep := rfl
@[simp] theorem State.putCounts_moderators (a : AgentId) (x : Counts) :
    (s.putCounts a x).moderators =
      s.moderators := rfl
@[simp] theorem State.putCounts_ports (a : AgentId) (x : Counts) : (s.putCounts a x).ports = s.ports := rfl
@[simp] theorem State.putCounts_mgmt (a : AgentId) (x : Counts) : (s.putCounts a x).mgmt = s.mgmt := rfl
@[simp] theorem State.putCounts_spi (a : AgentId) (x : Counts) : (s.putCounts a x).spi = s.spi := rfl
@[simp] theorem State.putCounts_upsets (a : AgentId) (x : Counts) : (s.putCounts a x).upsets = s.upsets := rfl
@[simp] theorem State.putCounts_pending (a : AgentId) (x : Counts) : (s.putCounts a x).pending = s.pending := rfl

/-! ### putSlot -/

@[simp] theorem State.putSlot_resetN (h : Nat) (x : Slot) : (s.putSlot h x).resetN = s.resetN := rfl
@[simp] theorem State.putSlot_dir_state (h : Nat) (x : Slot) : (s.putSlot h x).dir.state = s.dir.state := rfl
@[simp] theorem State.putSlot_dir_haltCause (h : Nat) (x : Slot) :
    (s.putSlot h x).dir.haltCause =
      s.dir.haltCause := rfl
@[simp] theorem State.putSlot_dir_slots (h : Nat) (x : Slot) :
    (s.putSlot h x).dir.slots =
      Table.put s.dir.slots h x := rfl
@[simp] theorem State.putSlot_dir_pool (h : Nat) (x : Slot) : (s.putSlot h x).dir.pool = s.dir.pool := rfl
@[simp] theorem State.putSlot_dir_nextToken (h : Nat) (x : Slot) :
    (s.putSlot h x).dir.nextToken =
      s.dir.nextToken := rfl
@[simp] theorem State.putSlot_dir_counts (h : Nat) (x : Slot) : (s.putSlot h x).dir.counts = s.dir.counts := rfl
@[simp] theorem State.putSlot_arbiter (h : Nat) (x : Slot) : (s.putSlot h x).arbiter = s.arbiter := rfl
@[simp] theorem State.putSlot_deadlines (h : Nat) (x : Slot) : (s.putSlot h x).deadlines = s.deadlines := rfl
@[simp] theorem State.putSlot_clock (h : Nat) (x : Slot) : (s.putSlot h x).clock = s.clock := rfl
@[simp] theorem State.putSlot_sessions (h : Nat) (x : Slot) : (s.putSlot h x).sessions = s.sessions := rfl
@[simp] theorem State.putSlot_sweep (h : Nat) (x : Slot) : (s.putSlot h x).sweep = s.sweep := rfl
@[simp] theorem State.putSlot_moderators (h : Nat) (x : Slot) : (s.putSlot h x).moderators = s.moderators := rfl
@[simp] theorem State.putSlot_ports (h : Nat) (x : Slot) : (s.putSlot h x).ports = s.ports := rfl
@[simp] theorem State.putSlot_mgmt (h : Nat) (x : Slot) : (s.putSlot h x).mgmt = s.mgmt := rfl
@[simp] theorem State.putSlot_spi (h : Nat) (x : Slot) : (s.putSlot h x).spi = s.spi := rfl
@[simp] theorem State.putSlot_upsets (h : Nat) (x : Slot) : (s.putSlot h x).upsets = s.upsets := rfl
@[simp] theorem State.putSlot_pending (h : Nat) (x : Slot) : (s.putSlot h x).pending = s.pending := rfl

/-! ### freeSlot -/

@[simp] theorem State.freeSlot_resetN (h : Nat) : (s.freeSlot h).resetN = s.resetN := rfl
@[simp] theorem State.freeSlot_dir_state (h : Nat) : (s.freeSlot h).dir.state = s.dir.state := rfl
@[simp] theorem State.freeSlot_dir_haltCause (h : Nat) : (s.freeSlot h).dir.haltCause = s.dir.haltCause := rfl
@[simp] theorem State.freeSlot_dir_slots (h : Nat) : (s.freeSlot h).dir.slots = Table.free s.dir.slots h := rfl
@[simp] theorem State.freeSlot_dir_pool (h : Nat) : (s.freeSlot h).dir.pool = s.dir.pool := rfl
@[simp] theorem State.freeSlot_dir_nextToken (h : Nat) : (s.freeSlot h).dir.nextToken = s.dir.nextToken := rfl
@[simp] theorem State.freeSlot_dir_counts (h : Nat) : (s.freeSlot h).dir.counts = s.dir.counts := rfl
@[simp] theorem State.freeSlot_arbiter (h : Nat) : (s.freeSlot h).arbiter = s.arbiter := rfl
@[simp] theorem State.freeSlot_deadlines (h : Nat) : (s.freeSlot h).deadlines = s.deadlines := rfl
@[simp] theorem State.freeSlot_clock (h : Nat) : (s.freeSlot h).clock = s.clock := rfl
@[simp] theorem State.freeSlot_sessions (h : Nat) : (s.freeSlot h).sessions = s.sessions := rfl
@[simp] theorem State.freeSlot_sweep (h : Nat) : (s.freeSlot h).sweep = s.sweep := rfl
@[simp] theorem State.freeSlot_moderators (h : Nat) : (s.freeSlot h).moderators = s.moderators := rfl
@[simp] theorem State.freeSlot_ports (h : Nat) : (s.freeSlot h).ports = s.ports := rfl
@[simp] theorem State.freeSlot_mgmt (h : Nat) : (s.freeSlot h).mgmt = s.mgmt := rfl
@[simp] theorem State.freeSlot_spi (h : Nat) : (s.freeSlot h).spi = s.spi := rfl
@[simp] theorem State.freeSlot_upsets (h : Nat) : (s.freeSlot h).upsets = s.upsets := rfl
@[simp] theorem State.freeSlot_pending (h : Nat) : (s.freeSlot h).pending = s.pending := rfl

/-! ### putRecord -/

@[simp] theorem State.putRecord_resetN (h : Nat) (x : Record) : (s.putRecord h x).resetN = s.resetN := rfl
@[simp] theorem State.putRecord_dir_state (h : Nat) (x : Record) : (s.putRecord h x).dir.state = s.dir.state := rfl
@[simp] theorem State.putRecord_dir_haltCause (h : Nat) (x : Record) :
    (s.putRecord h x).dir.haltCause =
      s.dir.haltCause := rfl
@[simp] theorem State.putRecord_dir_slots (h : Nat) (x : Record) :
    (s.putRecord h x).dir.slots =
      Table.put s.dir.slots h (.live { x with checkOk := true }) := rfl
@[simp] theorem State.putRecord_dir_pool (h : Nat) (x : Record) : (s.putRecord h x).dir.pool = s.dir.pool := rfl
@[simp] theorem State.putRecord_dir_nextToken (h : Nat) (x : Record) :
    (s.putRecord h x).dir.nextToken =
      s.dir.nextToken := rfl
@[simp] theorem State.putRecord_dir_counts (h : Nat) (x : Record) : (s.putRecord h x).dir.counts = s.dir.counts := rfl
@[simp] theorem State.putRecord_arbiter (h : Nat) (x : Record) : (s.putRecord h x).arbiter = s.arbiter := rfl
@[simp] theorem State.putRecord_deadlines (h : Nat) (x : Record) : (s.putRecord h x).deadlines = s.deadlines := rfl
@[simp] theorem State.putRecord_clock (h : Nat) (x : Record) : (s.putRecord h x).clock = s.clock := rfl
@[simp] theorem State.putRecord_sessions (h : Nat) (x : Record) : (s.putRecord h x).sessions = s.sessions := rfl
@[simp] theorem State.putRecord_sweep (h : Nat) (x : Record) : (s.putRecord h x).sweep = s.sweep := rfl
@[simp] theorem State.putRecord_moderators (h : Nat) (x : Record) : (s.putRecord h x).moderators = s.moderators := rfl
@[simp] theorem State.putRecord_ports (h : Nat) (x : Record) : (s.putRecord h x).ports = s.ports := rfl
@[simp] theorem State.putRecord_mgmt (h : Nat) (x : Record) : (s.putRecord h x).mgmt = s.mgmt := rfl
@[simp] theorem State.putRecord_spi (h : Nat) (x : Record) : (s.putRecord h x).spi = s.spi := rfl
@[simp] theorem State.putRecord_upsets (h : Nat) (x : Record) : (s.putRecord h x).upsets = s.upsets := rfl
@[simp] theorem State.putRecord_pending (h : Nat) (x : Record) : (s.putRecord h x).pending = s.pending := rfl

/-! ### putMember -/

@[simp] theorem State.putMember_resetN (i : Nat) (x : Membership) : (s.putMember i x).resetN = s.resetN := rfl
@[simp] theorem State.putMember_dir_state (i : Nat) (x : Membership) :
    (s.putMember i x).dir.state =
      s.dir.state := rfl
@[simp] theorem State.putMember_dir_haltCause (i : Nat) (x : Membership) :
    (s.putMember i x).dir.haltCause =
      s.dir.haltCause := rfl
@[simp] theorem State.putMember_dir_slots (i : Nat) (x : Membership) :
    (s.putMember i x).dir.slots =
      s.dir.slots := rfl
@[simp] theorem State.putMember_dir_pool (i : Nat) (x : Membership) :
    (s.putMember i x).dir.pool =
      Table.put s.dir.pool i { x with checkOk := true } := rfl
@[simp] theorem State.putMember_dir_nextToken (i : Nat) (x : Membership) :
    (s.putMember i x).dir.nextToken =
      s.dir.nextToken := rfl
@[simp] theorem State.putMember_dir_counts (i : Nat) (x : Membership) :
    (s.putMember i x).dir.counts =
      s.dir.counts := rfl
@[simp] theorem State.putMember_arbiter (i : Nat) (x : Membership) : (s.putMember i x).arbiter = s.arbiter := rfl
@[simp] theorem State.putMember_deadlines (i : Nat) (x : Membership) :
    (s.putMember i x).deadlines =
      s.deadlines := rfl
@[simp] theorem State.putMember_clock (i : Nat) (x : Membership) : (s.putMember i x).clock = s.clock := rfl
@[simp] theorem State.putMember_sessions (i : Nat) (x : Membership) : (s.putMember i x).sessions = s.sessions := rfl
@[simp] theorem State.putMember_sweep (i : Nat) (x : Membership) : (s.putMember i x).sweep = s.sweep := rfl
@[simp] theorem State.putMember_moderators (i : Nat) (x : Membership) :
    (s.putMember i x).moderators =
      s.moderators := rfl
@[simp] theorem State.putMember_ports (i : Nat) (x : Membership) : (s.putMember i x).ports = s.ports := rfl
@[simp] theorem State.putMember_mgmt (i : Nat) (x : Membership) : (s.putMember i x).mgmt = s.mgmt := rfl
@[simp] theorem State.putMember_spi (i : Nat) (x : Membership) : (s.putMember i x).spi = s.spi := rfl
@[simp] theorem State.putMember_upsets (i : Nat) (x : Membership) : (s.putMember i x).upsets = s.upsets := rfl
@[simp] theorem State.putMember_pending (i : Nat) (x : Membership) : (s.putMember i x).pending = s.pending := rfl

/-! ### freeMember -/

@[simp] theorem State.freeMember_resetN (i : Nat) : (s.freeMember i).resetN = s.resetN := rfl
@[simp] theorem State.freeMember_dir_state (i : Nat) : (s.freeMember i).dir.state = s.dir.state := rfl
@[simp] theorem State.freeMember_dir_haltCause (i : Nat) : (s.freeMember i).dir.haltCause = s.dir.haltCause := rfl
@[simp] theorem State.freeMember_dir_slots (i : Nat) : (s.freeMember i).dir.slots = s.dir.slots := rfl
@[simp] theorem State.freeMember_dir_pool (i : Nat) : (s.freeMember i).dir.pool = Table.free s.dir.pool i := rfl
@[simp] theorem State.freeMember_dir_nextToken (i : Nat) : (s.freeMember i).dir.nextToken = s.dir.nextToken := rfl
@[simp] theorem State.freeMember_dir_counts (i : Nat) : (s.freeMember i).dir.counts = s.dir.counts := rfl
@[simp] theorem State.freeMember_arbiter (i : Nat) : (s.freeMember i).arbiter = s.arbiter := rfl
@[simp] theorem State.freeMember_deadlines (i : Nat) : (s.freeMember i).deadlines = s.deadlines := rfl
@[simp] theorem State.freeMember_clock (i : Nat) : (s.freeMember i).clock = s.clock := rfl
@[simp] theorem State.freeMember_sessions (i : Nat) : (s.freeMember i).sessions = s.sessions := rfl
@[simp] theorem State.freeMember_sweep (i : Nat) : (s.freeMember i).sweep = s.sweep := rfl
@[simp] theorem State.freeMember_moderators (i : Nat) : (s.freeMember i).moderators = s.moderators := rfl
@[simp] theorem State.freeMember_ports (i : Nat) : (s.freeMember i).ports = s.ports := rfl
@[simp] theorem State.freeMember_mgmt (i : Nat) : (s.freeMember i).mgmt = s.mgmt := rfl
@[simp] theorem State.freeMember_spi (i : Nat) : (s.freeMember i).spi = s.spi := rfl
@[simp] theorem State.freeMember_upsets (i : Nat) : (s.freeMember i).upsets = s.upsets := rfl
@[simp] theorem State.freeMember_pending (i : Nat) : (s.freeMember i).pending = s.pending := rfl

/-! ### advanceToken -/

@[simp] theorem State.advanceToken_resetN : (s.advanceToken).resetN = s.resetN := rfl
@[simp] theorem State.advanceToken_dir_state : (s.advanceToken).dir.state = s.dir.state := rfl
@[simp] theorem State.advanceToken_dir_haltCause : (s.advanceToken).dir.haltCause = s.dir.haltCause := rfl
@[simp] theorem State.advanceToken_dir_slots : (s.advanceToken).dir.slots = s.dir.slots := rfl
@[simp] theorem State.advanceToken_dir_pool : (s.advanceToken).dir.pool = s.dir.pool := rfl
@[simp] theorem State.advanceToken_dir_nextToken : (s.advanceToken).dir.nextToken = s.dir.nextToken + 1 := rfl
@[simp] theorem State.advanceToken_dir_counts : (s.advanceToken).dir.counts = s.dir.counts := rfl
@[simp] theorem State.advanceToken_arbiter : (s.advanceToken).arbiter = s.arbiter := rfl
@[simp] theorem State.advanceToken_deadlines : (s.advanceToken).deadlines = s.deadlines := rfl
@[simp] theorem State.advanceToken_clock : (s.advanceToken).clock = s.clock := rfl
@[simp] theorem State.advanceToken_sessions : (s.advanceToken).sessions = s.sessions := rfl
@[simp] theorem State.advanceToken_sweep : (s.advanceToken).sweep = s.sweep := rfl
@[simp] theorem State.advanceToken_moderators : (s.advanceToken).moderators = s.moderators := rfl
@[simp] theorem State.advanceToken_ports : (s.advanceToken).ports = s.ports := rfl
@[simp] theorem State.advanceToken_mgmt : (s.advanceToken).mgmt = s.mgmt := rfl
@[simp] theorem State.advanceToken_spi : (s.advanceToken).spi = s.spi := rfl
@[simp] theorem State.advanceToken_upsets : (s.advanceToken).upsets = s.upsets := rfl
@[simp] theorem State.advanceToken_pending : (s.advanceToken).pending = s.pending := rfl

/-! ### raise -/

@[simp] theorem State.raise_resetN (f : FaultFlag) : (s.raise f).resetN = s.resetN := rfl
@[simp] theorem State.raise_dir (f : FaultFlag) : (s.raise f).dir = s.dir := rfl
@[simp] theorem State.raise_arbiter (f : FaultFlag) : (s.raise f).arbiter = s.arbiter := rfl
@[simp] theorem State.raise_deadlines (f : FaultFlag) : (s.raise f).deadlines = s.deadlines := rfl
@[simp] theorem State.raise_clock (f : FaultFlag) : (s.raise f).clock = s.clock := rfl
@[simp] theorem State.raise_sessions (f : FaultFlag) : (s.raise f).sessions = s.sessions := rfl
@[simp] theorem State.raise_sweep (f : FaultFlag) : (s.raise f).sweep = s.sweep := rfl
@[simp] theorem State.raise_moderators (f : FaultFlag) : (s.raise f).moderators = s.moderators := rfl
@[simp] theorem State.raise_ports (f : FaultFlag) : (s.raise f).ports = s.ports := rfl
@[simp] theorem State.raise_mgmt_config (f : FaultFlag) : (s.raise f).mgmt.config = s.mgmt.config := rfl
@[simp] theorem State.raise_mgmt_arg0 (f : FaultFlag) : (s.raise f).mgmt.arg0 = s.mgmt.arg0 := rfl
@[simp] theorem State.raise_mgmt_arg1 (f : FaultFlag) : (s.raise f).mgmt.arg1 = s.mgmt.arg1 := rfl
@[simp] theorem State.raise_mgmt_busy (f : FaultFlag) : (s.raise f).mgmt.busy = s.mgmt.busy := rfl
@[simp] theorem State.raise_mgmt_result (f : FaultFlag) : (s.raise f).mgmt.result = s.mgmt.result := rfl
@[simp] theorem State.raise_mgmt_window (f : FaultFlag) : (s.raise f).mgmt.window = s.mgmt.window := rfl
@[simp] theorem State.raise_mgmt_holding (f : FaultFlag) : (s.raise f).mgmt.holding = s.mgmt.holding := rfl
@[simp] theorem State.raise_mgmt_faults (f : FaultFlag) : (s.raise f).mgmt.faults = s.mgmt.faults ||| f.bit := rfl
@[simp] theorem State.raise_mgmt_enables (f : FaultFlag) : (s.raise f).mgmt.enables = s.mgmt.enables := rfl
@[simp] theorem State.raise_mgmt_stats (f : FaultFlag) : (s.raise f).mgmt.stats = s.mgmt.stats := rfl
@[simp] theorem State.raise_mgmt_quarantines (f : FaultFlag) :
    (s.raise f).mgmt.quarantines =
      s.mgmt.quarantines := rfl
@[simp] theorem State.raise_spi (f : FaultFlag) : (s.raise f).spi = s.spi := rfl
@[simp] theorem State.raise_upsets (f : FaultFlag) : (s.raise f).upsets = s.upsets := rfl
@[simp] theorem State.raise_pending (f : FaultFlag) : (s.raise f).pending = s.pending := rfl

/-! ### count -/

@[simp] theorem State.count_resetN (r : StatReg) : (s.count r).resetN = s.resetN := rfl
@[simp] theorem State.count_dir (r : StatReg) : (s.count r).dir = s.dir := rfl
@[simp] theorem State.count_arbiter (r : StatReg) : (s.count r).arbiter = s.arbiter := rfl
@[simp] theorem State.count_deadlines (r : StatReg) : (s.count r).deadlines = s.deadlines := rfl
@[simp] theorem State.count_clock (r : StatReg) : (s.count r).clock = s.clock := rfl
@[simp] theorem State.count_sessions (r : StatReg) : (s.count r).sessions = s.sessions := rfl
@[simp] theorem State.count_sweep (r : StatReg) : (s.count r).sweep = s.sweep := rfl
@[simp] theorem State.count_moderators (r : StatReg) : (s.count r).moderators = s.moderators := rfl
@[simp] theorem State.count_ports (r : StatReg) : (s.count r).ports = s.ports := rfl
@[simp] theorem State.count_mgmt (r : StatReg) : (s.count r).mgmt = s.mgmt.putStat r (s.mgmt.stat r + 1) := rfl
@[simp] theorem State.count_spi (r : StatReg) : (s.count r).spi = s.spi := rfl
@[simp] theorem State.count_upsets (r : StatReg) : (s.count r).upsets = s.upsets := rfl
@[simp] theorem State.count_pending (r : StatReg) : (s.count r).pending = s.pending := rfl

/-! ### removeDeadline -/

@[simp] theorem State.removeDeadline_resetN (i : Nat) : (s.removeDeadline i).resetN = s.resetN := rfl
@[simp] theorem State.removeDeadline_dir (i : Nat) : (s.removeDeadline i).dir = s.dir := rfl
@[simp] theorem State.removeDeadline_arbiter (i : Nat) : (s.removeDeadline i).arbiter = s.arbiter := rfl
@[simp] theorem State.removeDeadline_deadlines (i : Nat) :
    (s.removeDeadline i).deadlines =
      { list := s.deadlines.list.filter (fun e => decide (e.index ≠ i))
        expiry := s.deadlines.expiry.filter (fun e => decide (e.index ≠ i)) } := rfl
@[simp] theorem State.removeDeadline_clock (i : Nat) : (s.removeDeadline i).clock = s.clock := rfl
@[simp] theorem State.removeDeadline_sessions (i : Nat) : (s.removeDeadline i).sessions = s.sessions := rfl
@[simp] theorem State.removeDeadline_sweep (i : Nat) : (s.removeDeadline i).sweep = s.sweep := rfl
@[simp] theorem State.removeDeadline_moderators (i : Nat) : (s.removeDeadline i).moderators = s.moderators := rfl
@[simp] theorem State.removeDeadline_ports (i : Nat) : (s.removeDeadline i).ports = s.ports := rfl
@[simp] theorem State.removeDeadline_mgmt (i : Nat) : (s.removeDeadline i).mgmt = s.mgmt := rfl
@[simp] theorem State.removeDeadline_spi (i : Nat) : (s.removeDeadline i).spi = s.spi := rfl
@[simp] theorem State.removeDeadline_upsets (i : Nat) : (s.removeDeadline i).upsets = s.upsets := rfl
@[simp] theorem State.removeDeadline_pending (i : Nat) : (s.removeDeadline i).pending = s.pending := rfl

/-! ### removeAgentDeadlines -/

@[simp] theorem State.removeAgentDeadlines_resetN (a : AgentId) : (s.removeAgentDeadlines a).resetN = s.resetN := rfl
@[simp] theorem State.removeAgentDeadlines_dir (a : AgentId) : (s.removeAgentDeadlines a).dir = s.dir := rfl
@[simp] theorem State.removeAgentDeadlines_arbiter (a : AgentId) :
    (s.removeAgentDeadlines a).arbiter =
      s.arbiter := rfl
@[simp] theorem State.removeAgentDeadlines_deadlines (a : AgentId) :
    (s.removeAgentDeadlines a).deadlines =
      { list := s.deadlines.list.filter (fun e => decide (e.agent ≠ a))
        expiry := s.deadlines.expiry.filter (fun e => decide (e.agent ≠ a)) } := rfl
@[simp] theorem State.removeAgentDeadlines_clock (a : AgentId) : (s.removeAgentDeadlines a).clock = s.clock := rfl
@[simp] theorem State.removeAgentDeadlines_sessions (a : AgentId) :
    (s.removeAgentDeadlines a).sessions =
      s.sessions := rfl
@[simp] theorem State.removeAgentDeadlines_sweep (a : AgentId) : (s.removeAgentDeadlines a).sweep = s.sweep := rfl
@[simp] theorem State.removeAgentDeadlines_moderators (a : AgentId) :
    (s.removeAgentDeadlines a).moderators =
      s.moderators := rfl
@[simp] theorem State.removeAgentDeadlines_ports (a : AgentId) : (s.removeAgentDeadlines a).ports = s.ports := rfl
@[simp] theorem State.removeAgentDeadlines_mgmt (a : AgentId) : (s.removeAgentDeadlines a).mgmt = s.mgmt := rfl
@[simp] theorem State.removeAgentDeadlines_spi (a : AgentId) : (s.removeAgentDeadlines a).spi = s.spi := rfl
@[simp] theorem State.removeAgentDeadlines_upsets (a : AgentId) : (s.removeAgentDeadlines a).upsets = s.upsets := rfl
@[simp] theorem State.removeAgentDeadlines_pending (a : AgentId) :
    (s.removeAgentDeadlines a).pending =
      s.pending := rfl

/-! ### placeJob -/

@[simp] theorem State.placeJob_resetN (j : SweepJob) : (s.placeJob j).resetN = s.resetN := rfl
@[simp] theorem State.placeJob_dir (j : SweepJob) : (s.placeJob j).dir = s.dir := rfl
@[simp] theorem State.placeJob_arbiter (j : SweepJob) : (s.placeJob j).arbiter = s.arbiter := rfl
@[simp] theorem State.placeJob_deadlines (j : SweepJob) : (s.placeJob j).deadlines = s.deadlines := rfl
@[simp] theorem State.placeJob_clock (j : SweepJob) : (s.placeJob j).clock = s.clock := rfl
@[simp] theorem State.placeJob_sessions (j : SweepJob) : (s.placeJob j).sessions = s.sessions := rfl
@[simp] theorem State.placeJob_sweep (j : SweepJob) : (s.placeJob j).sweep = s.sweep ++ [j] := rfl
@[simp] theorem State.placeJob_moderators (j : SweepJob) : (s.placeJob j).moderators = s.moderators := rfl
@[simp] theorem State.placeJob_ports (j : SweepJob) : (s.placeJob j).ports = s.ports := rfl
@[simp] theorem State.placeJob_mgmt (j : SweepJob) : (s.placeJob j).mgmt = s.mgmt := rfl
@[simp] theorem State.placeJob_spi (j : SweepJob) : (s.placeJob j).spi = s.spi := rfl
@[simp] theorem State.placeJob_upsets (j : SweepJob) : (s.placeJob j).upsets = s.upsets := rfl
@[simp] theorem State.placeJob_pending (j : SweepJob) : (s.placeJob j).pending = s.pending := rfl

/-! ### dropJob -/

@[simp] theorem State.dropJob_resetN : (s.dropJob).resetN = s.resetN := rfl
@[simp] theorem State.dropJob_dir : (s.dropJob).dir = s.dir := rfl
@[simp] theorem State.dropJob_arbiter : (s.dropJob).arbiter = s.arbiter := rfl
@[simp] theorem State.dropJob_deadlines : (s.dropJob).deadlines = s.deadlines := rfl
@[simp] theorem State.dropJob_clock : (s.dropJob).clock = s.clock := rfl
@[simp] theorem State.dropJob_sessions : (s.dropJob).sessions = s.sessions := rfl
@[simp] theorem State.dropJob_sweep : (s.dropJob).sweep = s.sweep.tail := rfl
@[simp] theorem State.dropJob_moderators : (s.dropJob).moderators = s.moderators := rfl
@[simp] theorem State.dropJob_ports : (s.dropJob).ports = s.ports := rfl
@[simp] theorem State.dropJob_mgmt : (s.dropJob).mgmt = s.mgmt := rfl
@[simp] theorem State.dropJob_spi : (s.dropJob).spi = s.spi := rfl
@[simp] theorem State.dropJob_upsets : (s.dropJob).upsets = s.upsets := rfl
@[simp] theorem State.dropJob_pending : (s.dropJob).pending = s.pending := rfl

/-! ### endOperation -/

@[simp] theorem State.endOperation_resetN : (s.endOperation).resetN = s.resetN := rfl
@[simp] theorem State.endOperation_dir : (s.endOperation).dir = s.dir := rfl
@[simp] theorem State.endOperation_arbiter : (s.endOperation).arbiter = { s.arbiter with operation := none } := rfl
@[simp] theorem State.endOperation_deadlines : (s.endOperation).deadlines = s.deadlines := rfl
@[simp] theorem State.endOperation_clock : (s.endOperation).clock = s.clock := rfl
@[simp] theorem State.endOperation_sessions : (s.endOperation).sessions = s.sessions := rfl
@[simp] theorem State.endOperation_sweep : (s.endOperation).sweep = s.sweep := rfl
@[simp] theorem State.endOperation_moderators : (s.endOperation).moderators = s.moderators := rfl
@[simp] theorem State.endOperation_ports : (s.endOperation).ports = s.ports := rfl
@[simp] theorem State.endOperation_mgmt : (s.endOperation).mgmt = s.mgmt := rfl
@[simp] theorem State.endOperation_spi : (s.endOperation).spi = s.spi := rfl
@[simp] theorem State.endOperation_upsets : (s.endOperation).upsets = s.upsets := rfl
@[simp] theorem State.endOperation_pending : (s.endOperation).pending = s.pending := rfl

/-! ### putWindow -/

@[simp] theorem State.putWindow_resetN (w : Window) : (s.putWindow w).resetN = s.resetN := rfl
@[simp] theorem State.putWindow_dir (w : Window) : (s.putWindow w).dir = s.dir := rfl
@[simp] theorem State.putWindow_arbiter (w : Window) : (s.putWindow w).arbiter = s.arbiter := rfl
@[simp] theorem State.putWindow_deadlines (w : Window) : (s.putWindow w).deadlines = s.deadlines := rfl
@[simp] theorem State.putWindow_clock (w : Window) : (s.putWindow w).clock = s.clock := rfl
@[simp] theorem State.putWindow_sessions (w : Window) : (s.putWindow w).sessions = s.sessions := rfl
@[simp] theorem State.putWindow_sweep (w : Window) : (s.putWindow w).sweep = s.sweep := rfl
@[simp] theorem State.putWindow_moderators (w : Window) : (s.putWindow w).moderators = s.moderators := rfl
@[simp] theorem State.putWindow_ports (w : Window) : (s.putWindow w).ports = s.ports := rfl
@[simp] theorem State.putWindow_mgmt_config (w : Window) : (s.putWindow w).mgmt.config = s.mgmt.config := rfl
@[simp] theorem State.putWindow_mgmt_arg0 (w : Window) : (s.putWindow w).mgmt.arg0 = s.mgmt.arg0 := rfl
@[simp] theorem State.putWindow_mgmt_arg1 (w : Window) : (s.putWindow w).mgmt.arg1 = s.mgmt.arg1 := rfl
@[simp] theorem State.putWindow_mgmt_busy (w : Window) : (s.putWindow w).mgmt.busy = s.mgmt.busy := rfl
@[simp] theorem State.putWindow_mgmt_result (w : Window) : (s.putWindow w).mgmt.result = s.mgmt.result := rfl
@[simp] theorem State.putWindow_mgmt_window (w : Window) : (s.putWindow w).mgmt.window = w := rfl
@[simp] theorem State.putWindow_mgmt_holding (w : Window) : (s.putWindow w).mgmt.holding = s.mgmt.holding := rfl
@[simp] theorem State.putWindow_mgmt_faults (w : Window) : (s.putWindow w).mgmt.faults = s.mgmt.faults := rfl
@[simp] theorem State.putWindow_mgmt_enables (w : Window) : (s.putWindow w).mgmt.enables = s.mgmt.enables := rfl
@[simp] theorem State.putWindow_mgmt_stats (w : Window) : (s.putWindow w).mgmt.stats = s.mgmt.stats := rfl
@[simp] theorem State.putWindow_mgmt_quarantines (w : Window) :
    (s.putWindow w).mgmt.quarantines =
      s.mgmt.quarantines := rfl
@[simp] theorem State.putWindow_spi (w : Window) : (s.putWindow w).spi = s.spi := rfl
@[simp] theorem State.putWindow_upsets (w : Window) : (s.putWindow w).upsets = s.upsets := rfl
@[simp] theorem State.putWindow_pending (w : Window) : (s.putWindow w).pending = s.pending := rfl

/-! ### newResult -/

@[simp] theorem State.newResult_resetN (c : Byte) : (s.newResult c).resetN = s.resetN := rfl
@[simp] theorem State.newResult_dir (c : Byte) : (s.newResult c).dir = s.dir := rfl
@[simp] theorem State.newResult_arbiter (c : Byte) : (s.newResult c).arbiter = s.arbiter := rfl
@[simp] theorem State.newResult_deadlines (c : Byte) : (s.newResult c).deadlines = s.deadlines := rfl
@[simp] theorem State.newResult_clock (c : Byte) : (s.newResult c).clock = s.clock := rfl
@[simp] theorem State.newResult_sessions (c : Byte) : (s.newResult c).sessions = s.sessions := rfl
@[simp] theorem State.newResult_sweep (c : Byte) : (s.newResult c).sweep = s.sweep := rfl
@[simp] theorem State.newResult_moderators (c : Byte) : (s.newResult c).moderators = s.moderators := rfl
@[simp] theorem State.newResult_ports (c : Byte) : (s.newResult c).ports = s.ports := rfl
@[simp] theorem State.newResult_mgmt_config (c : Byte) : (s.newResult c).mgmt.config = s.mgmt.config := rfl
@[simp] theorem State.newResult_mgmt_arg0 (c : Byte) : (s.newResult c).mgmt.arg0 = s.mgmt.arg0 := rfl
@[simp] theorem State.newResult_mgmt_arg1 (c : Byte) : (s.newResult c).mgmt.arg1 = s.mgmt.arg1 := rfl
@[simp] theorem State.newResult_mgmt_busy (c : Byte) : (s.newResult c).mgmt.busy = s.mgmt.busy := rfl
@[simp] theorem State.newResult_mgmt_result (c : Byte) :
    (s.newResult c).mgmt.result =
      { code := c, outcome := .none, reason := none, value := 0 } := rfl
@[simp] theorem State.newResult_mgmt_window (c : Byte) : (s.newResult c).mgmt.window = s.mgmt.window := rfl
@[simp] theorem State.newResult_mgmt_holding (c : Byte) : (s.newResult c).mgmt.holding = s.mgmt.holding := rfl
@[simp] theorem State.newResult_mgmt_faults (c : Byte) : (s.newResult c).mgmt.faults = s.mgmt.faults := rfl
@[simp] theorem State.newResult_mgmt_enables (c : Byte) : (s.newResult c).mgmt.enables = s.mgmt.enables := rfl
@[simp] theorem State.newResult_mgmt_stats (c : Byte) : (s.newResult c).mgmt.stats = s.mgmt.stats := rfl
@[simp] theorem State.newResult_mgmt_quarantines (c : Byte) :
    (s.newResult c).mgmt.quarantines =
      s.mgmt.quarantines := rfl
@[simp] theorem State.newResult_spi (c : Byte) : (s.newResult c).spi = s.spi := rfl
@[simp] theorem State.newResult_upsets (c : Byte) : (s.newResult c).upsets = s.upsets := rfl
@[simp] theorem State.newResult_pending (c : Byte) : (s.newResult c).pending = s.pending := rfl

/-! ### endDone -/

@[simp] theorem State.endDone_resetN (n : Nat) : (s.endDone n).resetN = s.resetN := rfl
@[simp] theorem State.endDone_dir (n : Nat) : (s.endDone n).dir = s.dir := rfl
@[simp] theorem State.endDone_arbiter (n : Nat) : (s.endDone n).arbiter = s.arbiter := rfl
@[simp] theorem State.endDone_deadlines (n : Nat) : (s.endDone n).deadlines = s.deadlines := rfl
@[simp] theorem State.endDone_clock (n : Nat) : (s.endDone n).clock = s.clock := rfl
@[simp] theorem State.endDone_sessions (n : Nat) : (s.endDone n).sessions = s.sessions := rfl
@[simp] theorem State.endDone_sweep (n : Nat) : (s.endDone n).sweep = s.sweep := rfl
@[simp] theorem State.endDone_moderators (n : Nat) : (s.endDone n).moderators = s.moderators := rfl
@[simp] theorem State.endDone_ports (n : Nat) : (s.endDone n).ports = s.ports := rfl
@[simp] theorem State.endDone_mgmt_config (n : Nat) : (s.endDone n).mgmt.config = s.mgmt.config := rfl
@[simp] theorem State.endDone_mgmt_arg0 (n : Nat) : (s.endDone n).mgmt.arg0 = s.mgmt.arg0 := rfl
@[simp] theorem State.endDone_mgmt_arg1 (n : Nat) : (s.endDone n).mgmt.arg1 = s.mgmt.arg1 := rfl
@[simp] theorem State.endDone_mgmt_busy (n : Nat) : (s.endDone n).mgmt.busy = none := rfl
@[simp] theorem State.endDone_mgmt_result (n : Nat) :
    (s.endDone n).mgmt.result =
      { s.mgmt.result with outcome := .done, reason := none, value := n } := rfl
@[simp] theorem State.endDone_mgmt_window (n : Nat) : (s.endDone n).mgmt.window = s.mgmt.window := rfl
@[simp] theorem State.endDone_mgmt_holding (n : Nat) : (s.endDone n).mgmt.holding = s.mgmt.holding := rfl
@[simp] theorem State.endDone_mgmt_faults (n : Nat) : (s.endDone n).mgmt.faults = s.mgmt.faults := rfl
@[simp] theorem State.endDone_mgmt_enables (n : Nat) : (s.endDone n).mgmt.enables = s.mgmt.enables := rfl
@[simp] theorem State.endDone_mgmt_stats (n : Nat) : (s.endDone n).mgmt.stats = s.mgmt.stats := rfl
@[simp] theorem State.endDone_mgmt_quarantines (n : Nat) : (s.endDone n).mgmt.quarantines = s.mgmt.quarantines := rfl
@[simp] theorem State.endDone_spi (n : Nat) : (s.endDone n).spi = s.spi := rfl
@[simp] theorem State.endDone_upsets (n : Nat) : (s.endDone n).upsets = s.upsets := rfl
@[simp] theorem State.endDone_pending (n : Nat) : (s.endDone n).pending = s.pending := rfl

/-! ### endRefused -/

@[simp] theorem State.endRefused_resetN (e : Reason) : (s.endRefused e).resetN = s.resetN := rfl
@[simp] theorem State.endRefused_dir (e : Reason) : (s.endRefused e).dir = s.dir := rfl
@[simp] theorem State.endRefused_arbiter (e : Reason) : (s.endRefused e).arbiter = s.arbiter := rfl
@[simp] theorem State.endRefused_deadlines (e : Reason) : (s.endRefused e).deadlines = s.deadlines := rfl
@[simp] theorem State.endRefused_clock (e : Reason) : (s.endRefused e).clock = s.clock := rfl
@[simp] theorem State.endRefused_sessions (e : Reason) : (s.endRefused e).sessions = s.sessions := rfl
@[simp] theorem State.endRefused_sweep (e : Reason) : (s.endRefused e).sweep = s.sweep := rfl
@[simp] theorem State.endRefused_moderators (e : Reason) : (s.endRefused e).moderators = s.moderators := rfl
@[simp] theorem State.endRefused_ports (e : Reason) : (s.endRefused e).ports = s.ports := rfl
@[simp] theorem State.endRefused_mgmt_config (e : Reason) : (s.endRefused e).mgmt.config = s.mgmt.config := rfl
@[simp] theorem State.endRefused_mgmt_arg0 (e : Reason) : (s.endRefused e).mgmt.arg0 = s.mgmt.arg0 := rfl
@[simp] theorem State.endRefused_mgmt_arg1 (e : Reason) : (s.endRefused e).mgmt.arg1 = s.mgmt.arg1 := rfl
@[simp] theorem State.endRefused_mgmt_busy (e : Reason) : (s.endRefused e).mgmt.busy = none := rfl
@[simp] theorem State.endRefused_mgmt_result (e : Reason) :
    (s.endRefused e).mgmt.result =
      { s.mgmt.result with outcome := .refused, reason := some e, value := 0 } := rfl
@[simp] theorem State.endRefused_mgmt_window (e : Reason) : (s.endRefused e).mgmt.window = s.mgmt.window := rfl
@[simp] theorem State.endRefused_mgmt_holding (e : Reason) : (s.endRefused e).mgmt.holding = s.mgmt.holding := rfl
@[simp] theorem State.endRefused_mgmt_faults (e : Reason) : (s.endRefused e).mgmt.faults = s.mgmt.faults := rfl
@[simp] theorem State.endRefused_mgmt_enables (e : Reason) : (s.endRefused e).mgmt.enables = s.mgmt.enables := rfl
@[simp] theorem State.endRefused_mgmt_stats (e : Reason) : (s.endRefused e).mgmt.stats = s.mgmt.stats := rfl
@[simp] theorem State.endRefused_mgmt_quarantines (e : Reason) :
    (s.endRefused e).mgmt.quarantines =
      s.mgmt.quarantines := rfl
@[simp] theorem State.endRefused_spi (e : Reason) : (s.endRefused e).spi = s.spi := rfl
@[simp] theorem State.endRefused_upsets (e : Reason) : (s.endRefused e).upsets = s.upsets := rfl
@[simp] theorem State.endRefused_pending (e : Reason) : (s.endRefused e).pending = s.pending := rfl

/-! ### Reads of one agent, one slot, one entry -/

@[simp] theorem State.putSession_moderator (a : AgentId) (x : Session) (b : AgentId) :
    (s.putSession a x).moderator b =
      s.moderator b := rfl
@[simp] theorem State.putSession_port (a : AgentId) (x : Session) (b : AgentId) :
    (s.putSession a x).port b =
      s.port b := rfl
@[simp] theorem State.putSession_counts (a : AgentId) (x : Session) (b : AgentId) :
    (s.putSession a x).counts b =
      s.counts b := rfl
@[simp] theorem State.putSession_slot (a : AgentId) (x : Session) (k : Nat) :
    (s.putSession a x).slot k =
      s.slot k := rfl
@[simp] theorem State.putSession_record (a : AgentId) (x : Session) (k : Nat) :
    (s.putSession a x).record k =
      s.record k := rfl
@[simp] theorem State.putSession_member (a : AgentId) (x : Session) (k : Nat) :
    (s.putSession a x).member k =
      s.member k := rfl
@[simp] theorem State.putSession_exhausted (a : AgentId) (x : Session) :
    (s.putSession a x).exhausted =
      s.exhausted := rfl

@[simp] theorem State.putModerator_session (a : AgentId) (x : Moderator) (b : AgentId) :
    (s.putModerator a x).session b =
      s.session b := rfl
@[simp] theorem State.putModerator_port (a : AgentId) (x : Moderator) (b : AgentId) :
    (s.putModerator a x).port b =
      s.port b := rfl
@[simp] theorem State.putModerator_counts (a : AgentId) (x : Moderator) (b : AgentId) :
    (s.putModerator a x).counts b =
      s.counts b := rfl
@[simp] theorem State.putModerator_slot (a : AgentId) (x : Moderator) (k : Nat) :
    (s.putModerator a x).slot k =
      s.slot k := rfl
@[simp] theorem State.putModerator_record (a : AgentId) (x : Moderator) (k : Nat) :
    (s.putModerator a x).record k =
      s.record k := rfl
@[simp] theorem State.putModerator_member (a : AgentId) (x : Moderator) (k : Nat) :
    (s.putModerator a x).member k =
      s.member k := rfl
@[simp] theorem State.putModerator_exhausted (a : AgentId) (x : Moderator) :
    (s.putModerator a x).exhausted =
      s.exhausted := rfl

@[simp] theorem State.putPort_session (a : AgentId) (x : Port) (b : AgentId) :
    (s.putPort a x).session b =
      s.session b := rfl
@[simp] theorem State.putPort_moderator (a : AgentId) (x : Port) (b : AgentId) :
    (s.putPort a x).moderator b =
      s.moderator b := rfl
@[simp] theorem State.putPort_counts (a : AgentId) (x : Port) (b : AgentId) :
    (s.putPort a x).counts b =
      s.counts b := rfl
@[simp] theorem State.putPort_slot (a : AgentId) (x : Port) (k : Nat) : (s.putPort a x).slot k = s.slot k := rfl
@[simp] theorem State.putPort_record (a : AgentId) (x : Port) (k : Nat) : (s.putPort a x).record k = s.record k := rfl
@[simp] theorem State.putPort_member (a : AgentId) (x : Port) (k : Nat) : (s.putPort a x).member k = s.member k := rfl
@[simp] theorem State.putPort_exhausted (a : AgentId) (x : Port) : (s.putPort a x).exhausted = s.exhausted := rfl

@[simp] theorem State.putSpi_session (x : SpiPort) (b : AgentId) : (s.putSpi x).session b = s.session b := rfl
@[simp] theorem State.putSpi_moderator (x : SpiPort) (b : AgentId) : (s.putSpi x).moderator b = s.moderator b := rfl
@[simp] theorem State.putSpi_port (x : SpiPort) (b : AgentId) : (s.putSpi x).port b = s.port b := rfl
@[simp] theorem State.putSpi_counts (x : SpiPort) (b : AgentId) : (s.putSpi x).counts b = s.counts b := rfl
@[simp] theorem State.putSpi_slot (x : SpiPort) (k : Nat) : (s.putSpi x).slot k = s.slot k := rfl
@[simp] theorem State.putSpi_record (x : SpiPort) (k : Nat) : (s.putSpi x).record k = s.record k := rfl
@[simp] theorem State.putSpi_member (x : SpiPort) (k : Nat) : (s.putSpi x).member k = s.member k := rfl
@[simp] theorem State.putSpi_exhausted (x : SpiPort) : (s.putSpi x).exhausted = s.exhausted := rfl

@[simp] theorem State.putCounts_session (a : AgentId) (x : Counts) (b : AgentId) :
    (s.putCounts a x).session b =
      s.session b := rfl
@[simp] theorem State.putCounts_moderator (a : AgentId) (x : Counts) (b : AgentId) :
    (s.putCounts a x).moderator b =
      s.moderator b := rfl
@[simp] theorem State.putCounts_port (a : AgentId) (x : Counts) (b : AgentId) :
    (s.putCounts a x).port b =
      s.port b := rfl
@[simp] theorem State.putCounts_slot (a : AgentId) (x : Counts) (k : Nat) : (s.putCounts a x).slot k = s.slot k := rfl
@[simp] theorem State.putCounts_record (a : AgentId) (x : Counts) (k : Nat) :
    (s.putCounts a x).record k =
      s.record k := rfl
@[simp] theorem State.putCounts_member (a : AgentId) (x : Counts) (k : Nat) :
    (s.putCounts a x).member k =
      s.member k := rfl
@[simp] theorem State.putCounts_exhausted (a : AgentId) (x : Counts) :
    (s.putCounts a x).exhausted =
      s.exhausted := rfl

@[simp] theorem State.putSlot_session (h : Nat) (x : Slot) (b : AgentId) :
    (s.putSlot h x).session b =
      s.session b := rfl
@[simp] theorem State.putSlot_moderator (h : Nat) (x : Slot) (b : AgentId) :
    (s.putSlot h x).moderator b =
      s.moderator b := rfl
@[simp] theorem State.putSlot_port (h : Nat) (x : Slot) (b : AgentId) : (s.putSlot h x).port b = s.port b := rfl
@[simp] theorem State.putSlot_counts (h : Nat) (x : Slot) (b : AgentId) : (s.putSlot h x).counts b = s.counts b := rfl
@[simp] theorem State.putSlot_member (h : Nat) (x : Slot) (k : Nat) : (s.putSlot h x).member k = s.member k := rfl
@[simp] theorem State.putSlot_exhausted (h : Nat) (x : Slot) : (s.putSlot h x).exhausted = s.exhausted := rfl

@[simp] theorem State.freeSlot_session (h : Nat) (b : AgentId) : (s.freeSlot h).session b = s.session b := rfl
@[simp] theorem State.freeSlot_moderator (h : Nat) (b : AgentId) : (s.freeSlot h).moderator b = s.moderator b := rfl
@[simp] theorem State.freeSlot_port (h : Nat) (b : AgentId) : (s.freeSlot h).port b = s.port b := rfl
@[simp] theorem State.freeSlot_counts (h : Nat) (b : AgentId) : (s.freeSlot h).counts b = s.counts b := rfl
@[simp] theorem State.freeSlot_member (h : Nat) (k : Nat) : (s.freeSlot h).member k = s.member k := rfl
@[simp] theorem State.freeSlot_exhausted (h : Nat) : (s.freeSlot h).exhausted = s.exhausted := rfl

@[simp] theorem State.putRecord_session (h : Nat) (x : Record) (b : AgentId) :
    (s.putRecord h x).session b =
      s.session b := rfl
@[simp] theorem State.putRecord_moderator (h : Nat) (x : Record) (b : AgentId) :
    (s.putRecord h x).moderator b =
      s.moderator b := rfl
@[simp] theorem State.putRecord_port (h : Nat) (x : Record) (b : AgentId) : (s.putRecord h x).port b = s.port b := rfl
@[simp] theorem State.putRecord_counts (h : Nat) (x : Record) (b : AgentId) :
    (s.putRecord h x).counts b =
      s.counts b := rfl
@[simp] theorem State.putRecord_member (h : Nat) (x : Record) (k : Nat) :
    (s.putRecord h x).member k =
      s.member k := rfl
@[simp] theorem State.putRecord_exhausted (h : Nat) (x : Record) : (s.putRecord h x).exhausted = s.exhausted := rfl

@[simp] theorem State.putMember_session (i : Nat) (x : Membership) (b : AgentId) :
    (s.putMember i x).session b =
      s.session b := rfl
@[simp] theorem State.putMember_moderator (i : Nat) (x : Membership) (b : AgentId) :
    (s.putMember i x).moderator b =
      s.moderator b := rfl
@[simp] theorem State.putMember_port (i : Nat) (x : Membership) (b : AgentId) :
    (s.putMember i x).port b =
      s.port b := rfl
@[simp] theorem State.putMember_counts (i : Nat) (x : Membership) (b : AgentId) :
    (s.putMember i x).counts b =
      s.counts b := rfl
@[simp] theorem State.putMember_slot (i : Nat) (x : Membership) (k : Nat) : (s.putMember i x).slot k = s.slot k := rfl
@[simp] theorem State.putMember_record (i : Nat) (x : Membership) (k : Nat) :
    (s.putMember i x).record k =
      s.record k := rfl
@[simp] theorem State.putMember_exhausted (i : Nat) (x : Membership) :
    (s.putMember i x).exhausted =
      s.exhausted := rfl

@[simp] theorem State.freeMember_session (i : Nat) (b : AgentId) : (s.freeMember i).session b = s.session b := rfl
@[simp] theorem State.freeMember_moderator (i : Nat) (b : AgentId) :
    (s.freeMember i).moderator b =
      s.moderator b := rfl
@[simp] theorem State.freeMember_port (i : Nat) (b : AgentId) : (s.freeMember i).port b = s.port b := rfl
@[simp] theorem State.freeMember_counts (i : Nat) (b : AgentId) : (s.freeMember i).counts b = s.counts b := rfl
@[simp] theorem State.freeMember_slot (i : Nat) (k : Nat) : (s.freeMember i).slot k = s.slot k := rfl
@[simp] theorem State.freeMember_record (i : Nat) (k : Nat) : (s.freeMember i).record k = s.record k := rfl
@[simp] theorem State.freeMember_exhausted (i : Nat) : (s.freeMember i).exhausted = s.exhausted := rfl

@[simp] theorem State.advanceToken_session (b : AgentId) : (s.advanceToken).session b = s.session b := rfl
@[simp] theorem State.advanceToken_moderator (b : AgentId) : (s.advanceToken).moderator b = s.moderator b := rfl
@[simp] theorem State.advanceToken_port (b : AgentId) : (s.advanceToken).port b = s.port b := rfl
@[simp] theorem State.advanceToken_counts (b : AgentId) : (s.advanceToken).counts b = s.counts b := rfl
@[simp] theorem State.advanceToken_slot (k : Nat) : (s.advanceToken).slot k = s.slot k := rfl
@[simp] theorem State.advanceToken_record (k : Nat) : (s.advanceToken).record k = s.record k := rfl
@[simp] theorem State.advanceToken_member (k : Nat) : (s.advanceToken).member k = s.member k := rfl

@[simp] theorem State.raise_session (f : FaultFlag) (b : AgentId) : (s.raise f).session b = s.session b := rfl
@[simp] theorem State.raise_moderator (f : FaultFlag) (b : AgentId) : (s.raise f).moderator b = s.moderator b := rfl
@[simp] theorem State.raise_port (f : FaultFlag) (b : AgentId) : (s.raise f).port b = s.port b := rfl
@[simp] theorem State.raise_counts (f : FaultFlag) (b : AgentId) : (s.raise f).counts b = s.counts b := rfl
@[simp] theorem State.raise_slot (f : FaultFlag) (k : Nat) : (s.raise f).slot k = s.slot k := rfl
@[simp] theorem State.raise_record (f : FaultFlag) (k : Nat) : (s.raise f).record k = s.record k := rfl
@[simp] theorem State.raise_member (f : FaultFlag) (k : Nat) : (s.raise f).member k = s.member k := rfl
@[simp] theorem State.raise_exhausted (f : FaultFlag) : (s.raise f).exhausted = s.exhausted := rfl

@[simp] theorem State.count_session (r : StatReg) (b : AgentId) : (s.count r).session b = s.session b := rfl
@[simp] theorem State.count_moderator (r : StatReg) (b : AgentId) : (s.count r).moderator b = s.moderator b := rfl
@[simp] theorem State.count_port (r : StatReg) (b : AgentId) : (s.count r).port b = s.port b := rfl
@[simp] theorem State.count_counts (r : StatReg) (b : AgentId) : (s.count r).counts b = s.counts b := rfl
@[simp] theorem State.count_slot (r : StatReg) (k : Nat) : (s.count r).slot k = s.slot k := rfl
@[simp] theorem State.count_record (r : StatReg) (k : Nat) : (s.count r).record k = s.record k := rfl
@[simp] theorem State.count_member (r : StatReg) (k : Nat) : (s.count r).member k = s.member k := rfl
@[simp] theorem State.count_exhausted (r : StatReg) : (s.count r).exhausted = s.exhausted := rfl

@[simp] theorem State.removeDeadline_session (i : Nat) (b : AgentId) :
    (s.removeDeadline i).session b =
      s.session b := rfl
@[simp] theorem State.removeDeadline_moderator (i : Nat) (b : AgentId) :
    (s.removeDeadline i).moderator b =
      s.moderator b := rfl
@[simp] theorem State.removeDeadline_port (i : Nat) (b : AgentId) : (s.removeDeadline i).port b = s.port b := rfl
@[simp] theorem State.removeDeadline_counts (i : Nat) (b : AgentId) :
    (s.removeDeadline i).counts b =
      s.counts b := rfl
@[simp] theorem State.removeDeadline_slot (i : Nat) (k : Nat) : (s.removeDeadline i).slot k = s.slot k := rfl
@[simp] theorem State.removeDeadline_record (i : Nat) (k : Nat) : (s.removeDeadline i).record k = s.record k := rfl
@[simp] theorem State.removeDeadline_member (i : Nat) (k : Nat) : (s.removeDeadline i).member k = s.member k := rfl
@[simp] theorem State.removeDeadline_exhausted (i : Nat) : (s.removeDeadline i).exhausted = s.exhausted := rfl

@[simp] theorem State.removeAgentDeadlines_session (a : AgentId) (b : AgentId) :
    (s.removeAgentDeadlines a).session b =
      s.session b := rfl
@[simp] theorem State.removeAgentDeadlines_moderator (a : AgentId) (b : AgentId) :
    (s.removeAgentDeadlines a).moderator b =
      s.moderator b := rfl
@[simp] theorem State.removeAgentDeadlines_port (a : AgentId) (b : AgentId) :
    (s.removeAgentDeadlines a).port b =
      s.port b := rfl
@[simp] theorem State.removeAgentDeadlines_counts (a : AgentId) (b : AgentId) :
    (s.removeAgentDeadlines a).counts b =
      s.counts b := rfl
@[simp] theorem State.removeAgentDeadlines_slot (a : AgentId) (k : Nat) :
    (s.removeAgentDeadlines a).slot k =
      s.slot k := rfl
@[simp] theorem State.removeAgentDeadlines_record (a : AgentId) (k : Nat) :
    (s.removeAgentDeadlines a).record k =
      s.record k := rfl
@[simp] theorem State.removeAgentDeadlines_member (a : AgentId) (k : Nat) :
    (s.removeAgentDeadlines a).member k =
      s.member k := rfl
@[simp] theorem State.removeAgentDeadlines_exhausted (a : AgentId) :
    (s.removeAgentDeadlines a).exhausted =
      s.exhausted := rfl

@[simp] theorem State.placeJob_session (j : SweepJob) (b : AgentId) : (s.placeJob j).session b = s.session b := rfl
@[simp] theorem State.placeJob_moderator (j : SweepJob) (b : AgentId) :
    (s.placeJob j).moderator b =
      s.moderator b := rfl
@[simp] theorem State.placeJob_port (j : SweepJob) (b : AgentId) : (s.placeJob j).port b = s.port b := rfl
@[simp] theorem State.placeJob_counts (j : SweepJob) (b : AgentId) : (s.placeJob j).counts b = s.counts b := rfl
@[simp] theorem State.placeJob_slot (j : SweepJob) (k : Nat) : (s.placeJob j).slot k = s.slot k := rfl
@[simp] theorem State.placeJob_record (j : SweepJob) (k : Nat) : (s.placeJob j).record k = s.record k := rfl
@[simp] theorem State.placeJob_member (j : SweepJob) (k : Nat) : (s.placeJob j).member k = s.member k := rfl
@[simp] theorem State.placeJob_exhausted (j : SweepJob) : (s.placeJob j).exhausted = s.exhausted := rfl

@[simp] theorem State.dropJob_session (b : AgentId) : (s.dropJob).session b = s.session b := rfl
@[simp] theorem State.dropJob_moderator (b : AgentId) : (s.dropJob).moderator b = s.moderator b := rfl
@[simp] theorem State.dropJob_port (b : AgentId) : (s.dropJob).port b = s.port b := rfl
@[simp] theorem State.dropJob_counts (b : AgentId) : (s.dropJob).counts b = s.counts b := rfl
@[simp] theorem State.dropJob_slot (k : Nat) : (s.dropJob).slot k = s.slot k := rfl
@[simp] theorem State.dropJob_record (k : Nat) : (s.dropJob).record k = s.record k := rfl
@[simp] theorem State.dropJob_member (k : Nat) : (s.dropJob).member k = s.member k := rfl
@[simp] theorem State.dropJob_exhausted : (s.dropJob).exhausted = s.exhausted := rfl

@[simp] theorem State.endOperation_session (b : AgentId) : (s.endOperation).session b = s.session b := rfl
@[simp] theorem State.endOperation_moderator (b : AgentId) : (s.endOperation).moderator b = s.moderator b := rfl
@[simp] theorem State.endOperation_port (b : AgentId) : (s.endOperation).port b = s.port b := rfl
@[simp] theorem State.endOperation_counts (b : AgentId) : (s.endOperation).counts b = s.counts b := rfl
@[simp] theorem State.endOperation_slot (k : Nat) : (s.endOperation).slot k = s.slot k := rfl
@[simp] theorem State.endOperation_record (k : Nat) : (s.endOperation).record k = s.record k := rfl
@[simp] theorem State.endOperation_member (k : Nat) : (s.endOperation).member k = s.member k := rfl
@[simp] theorem State.endOperation_exhausted : (s.endOperation).exhausted = s.exhausted := rfl

@[simp] theorem State.putWindow_session (w : Window) (b : AgentId) : (s.putWindow w).session b = s.session b := rfl
@[simp] theorem State.putWindow_moderator (w : Window) (b : AgentId) :
    (s.putWindow w).moderator b =
      s.moderator b := rfl
@[simp] theorem State.putWindow_port (w : Window) (b : AgentId) : (s.putWindow w).port b = s.port b := rfl
@[simp] theorem State.putWindow_counts (w : Window) (b : AgentId) : (s.putWindow w).counts b = s.counts b := rfl
@[simp] theorem State.putWindow_slot (w : Window) (k : Nat) : (s.putWindow w).slot k = s.slot k := rfl
@[simp] theorem State.putWindow_record (w : Window) (k : Nat) : (s.putWindow w).record k = s.record k := rfl
@[simp] theorem State.putWindow_member (w : Window) (k : Nat) : (s.putWindow w).member k = s.member k := rfl
@[simp] theorem State.putWindow_exhausted (w : Window) : (s.putWindow w).exhausted = s.exhausted := rfl

@[simp] theorem State.newResult_session (c : Byte) (b : AgentId) : (s.newResult c).session b = s.session b := rfl
@[simp] theorem State.newResult_moderator (c : Byte) (b : AgentId) :
    (s.newResult c).moderator b =
      s.moderator b := rfl
@[simp] theorem State.newResult_port (c : Byte) (b : AgentId) : (s.newResult c).port b = s.port b := rfl
@[simp] theorem State.newResult_counts (c : Byte) (b : AgentId) : (s.newResult c).counts b = s.counts b := rfl
@[simp] theorem State.newResult_slot (c : Byte) (k : Nat) : (s.newResult c).slot k = s.slot k := rfl
@[simp] theorem State.newResult_record (c : Byte) (k : Nat) : (s.newResult c).record k = s.record k := rfl
@[simp] theorem State.newResult_member (c : Byte) (k : Nat) : (s.newResult c).member k = s.member k := rfl
@[simp] theorem State.newResult_exhausted (c : Byte) : (s.newResult c).exhausted = s.exhausted := rfl

@[simp] theorem State.endDone_session (n : Nat) (b : AgentId) : (s.endDone n).session b = s.session b := rfl
@[simp] theorem State.endDone_moderator (n : Nat) (b : AgentId) : (s.endDone n).moderator b = s.moderator b := rfl
@[simp] theorem State.endDone_port (n : Nat) (b : AgentId) : (s.endDone n).port b = s.port b := rfl
@[simp] theorem State.endDone_counts (n : Nat) (b : AgentId) : (s.endDone n).counts b = s.counts b := rfl
@[simp] theorem State.endDone_slot (n : Nat) (k : Nat) : (s.endDone n).slot k = s.slot k := rfl
@[simp] theorem State.endDone_record (n : Nat) (k : Nat) : (s.endDone n).record k = s.record k := rfl
@[simp] theorem State.endDone_member (n : Nat) (k : Nat) : (s.endDone n).member k = s.member k := rfl
@[simp] theorem State.endDone_exhausted (n : Nat) : (s.endDone n).exhausted = s.exhausted := rfl

@[simp] theorem State.endRefused_session (e : Reason) (b : AgentId) : (s.endRefused e).session b = s.session b := rfl
@[simp] theorem State.endRefused_moderator (e : Reason) (b : AgentId) :
    (s.endRefused e).moderator b =
      s.moderator b := rfl
@[simp] theorem State.endRefused_port (e : Reason) (b : AgentId) : (s.endRefused e).port b = s.port b := rfl
@[simp] theorem State.endRefused_counts (e : Reason) (b : AgentId) : (s.endRefused e).counts b = s.counts b := rfl
@[simp] theorem State.endRefused_slot (e : Reason) (k : Nat) : (s.endRefused e).slot k = s.slot k := rfl
@[simp] theorem State.endRefused_record (e : Reason) (k : Nat) : (s.endRefused e).record k = s.record k := rfl
@[simp] theorem State.endRefused_member (e : Reason) (k : Nat) : (s.endRefused e).member k = s.member k := rfl
@[simp] theorem State.endRefused_exhausted (e : Reason) : (s.endRefused e).exhausted = s.exhausted := rfl

end Sys2Proof.Machine
end

