-- ==== Sys2Proof/Laws/Tables.lean ====
section
/-! SUPPORT. Laws of the indexed stores: what a read finds after a write, what the canonical form says, and the lowest free
index. -/

namespace Sys2Proof.Machine

variable {α : Type}

/-! ### Per-agent items -/

@[simp] theorem Per.get_put_self (v : Per α) (a : AgentId) (x : α) : Per.get (Per.put v a x) a = x := by
  simp only [Per.get, Per.put, Vector.get_eq_getElem, Vector.getElem_set_self]

theorem Per.get_put_of_ne (v : Per α) {a b : AgentId} (x : α) (h : b ≠ a) : Per.get (Per.put v a x) b = Per.get v b := by
  have : a.val ≠ b.val := fun e => h (Fin.ext e.symm)
  simp only [Per.get, Per.put, Vector.get_eq_getElem, Vector.getElem_set_ne _ _ this]

theorem Per.get_put (v : Per α) (a b : AgentId) (x : α) :
    Per.get (Per.put v a x) b = if b = a then x else Per.get v b := by
  by_cases h : b = a
  · subst h; simp
  · simp [h, Per.get_put_of_ne v x h]

@[simp] theorem Per.put_put (v : Per α) (a : AgentId) (x y : α) : Per.put (Per.put v a x) a y = Per.put v a y := by
  simp [Per.put]

@[simp] theorem Per.put_get (v : Per α) (a : AgentId) : Per.put v a (Per.get v a) = v := by
  simp [Per.put, Per.get, Vector.get_eq_getElem]

@[simp] theorem Per.get_replicate (x : α) (a : AgentId) : Per.get (Vector.replicate 8 x) a = x := by
  simp [Per.get, Vector.get_eq_getElem]

@[simp] theorem Per.get_map {β : Type} (f : α → β) (v : Per α) (a : AgentId) :
    Per.get (Vector.map f v) a = f (Per.get v a) := by
  simp [Per.get, Vector.get_eq_getElem]

/-! ### Tables: reads after writes -/

@[simp] theorem Table.get_nil (i : Nat) : Table.get ([] : Table α) i = none := rfl

theorem Table.get_cons (k i : Nat) (x : α) (t : Table α) :
    Table.get ((k, x) :: t) i = if k = i then some x else Table.get t i := rfl

@[simp] theorem Table.get_put_self (t : Table α) (i : Nat) (x : α) : Table.get (Table.put t i x) i = some x := by
  induction t with
  | nil => simp [Table.put, Table.get]
  | cons e t ih =>
    obtain ⟨k, y⟩ := e
    simp only [Table.put]
    split
    · simp [Table.get]
    · split
      · simp [Table.get]
      · next h => simp [Table.get_cons, h, ih]

theorem Table.get_put_of_ne (t : Table α) {i j : Nat} (x : α) (h : j ≠ i) :
    Table.get (Table.put t i x) j = Table.get t j := by
  induction t with
  | nil => simp [Table.put, Table.get, Ne.symm h]
  | cons e t ih =>
    obtain ⟨k, y⟩ := e
    simp only [Table.put]
    split
    · simp [Table.get_cons, Ne.symm h]
    · split
      · next hk => subst hk; simp [Table.get_cons, Ne.symm h]
      · simp [Table.get_cons, ih]

theorem Table.get_put (t : Table α) (i j : Nat) (x : α) :
    Table.get (Table.put t i x) j = if j = i then some x else Table.get t j := by
  by_cases h : j = i
  · subst h; simp
  · simp [h, Table.get_put_of_ne t x h]

@[simp] theorem Table.get_free_self (t : Table α) (i : Nat) : Table.get (Table.free t i) i = none := by
  induction t with
  | nil => rfl
  | cons e t ih =>
    obtain ⟨k, y⟩ := e
    by_cases h : k = i
    · subst h; simpa [Table.free] using ih
    · simp only [Table.free, decide_not] at ih ⊢
      simp [h, Table.get_cons, ih]

theorem Table.get_free_of_ne (t : Table α) {i j : Nat} (h : j ≠ i) : Table.get (Table.free t i) j = Table.get t j := by
  induction t with
  | nil => rfl
  | cons e t ih =>
    obtain ⟨k, y⟩ := e
    simp only [Table.free] at ih ⊢
    by_cases hk : k = i
    · subst hk; simpa [Table.get_cons, Ne.symm h] using ih
    · simp only [decide_not] at ih
      simp [hk, Table.get_cons, ih]

theorem Table.get_free (t : Table α) (i j : Nat) :
    Table.get (Table.free t i) j = if j = i then none else Table.get t j := by
  by_cases h : j = i
  · subst h; simp
  · simp [h, Table.get_free_of_ne t h]

@[simp] theorem Table.put_put (t : Table α) (i : Nat) (x y : α) :
    Table.put (Table.put t i x) i y = Table.put t i y := by
  induction t with
  | nil => simp [Table.put]
  | cons e t ih =>
    obtain ⟨k, z⟩ := e
    simp only [Table.put]
    split
    · simp [Table.put]
    · split
      · simp [Table.put]
      · next h1 h2 => simp [Table.put, h1, h2, ih]

@[simp] theorem Table.free_put (t : Table α) (i : Nat) (x : α) : Table.free (Table.put t i x) i = Table.free t i := by
  induction t with
  | nil => simp [Table.put, Table.free]
  | cons e t ih =>
    obtain ⟨k, z⟩ := e
    simp only [Table.free] at ih ⊢
    simp only [Table.put]
    split
    · simp [List.filter_cons]
    · split
      · next h => simp [h]
      · next h1 h2 => simpa [h2] using ih

/-! ### The canonical form -/

/-- The canonical form says that the indices rise and lie below the capacity. -/
theorem Table.wf_iff (capacity : Nat) (t : Table α) :
    Table.wf capacity t = true ↔ (t.map Prod.fst).Pairwise (· < ·) ∧ ∀ e ∈ t, e.1 < capacity := by
  induction t with
  | nil => simp [Table.wf]
  | cons e t ih =>
    obtain ⟨k, x⟩ := e
    cases t with
    | nil => simp [Table.wf]
    | cons e' t =>
      obtain ⟨l, y⟩ := e'
      simp only [Table.wf, Bool.and_eq_true, decide_eq_true_eq, ih]
      constructor
      · rintro ⟨hkl, hp, hb⟩
        refine ⟨?_, ?_⟩
        · simp only [List.map_cons, List.pairwise_cons] at hp ⊢
          refine ⟨?_, hp⟩
          intro z hz
          rcases List.mem_cons.mp hz with rfl | hz
          · exact hkl
          · exact Nat.lt_trans hkl (hp.1 z hz)
        · intro e he
          rcases List.mem_cons.mp he with rfl | he
          · exact Nat.lt_trans hkl (hb (l, y) (List.mem_cons_self ..))
          · exact hb e he
      · rintro ⟨hp, hb⟩
        simp only [List.map_cons, List.pairwise_cons] at hp
        refine ⟨hp.1 l (List.mem_cons_self ..), ?_, fun e he => hb e (List.mem_cons_of_mem _ he)⟩
        simpa only [List.map_cons, List.pairwise_cons] using hp.2

theorem Table.mem_put {t : Table α} {i : Nat} {x : α} {e : Nat × α} (h : e ∈ Table.put t i x) :
    e = (i, x) ∨ e ∈ t := by
  induction t with
  | nil => simpa [Table.put] using h
  | cons d t ih =>
    obtain ⟨k, y⟩ := d
    simp only [Table.put] at h
    split at h
    · rcases List.mem_cons.mp h with h | h
      · exact .inl h
      · exact .inr h
    · split at h
      · rcases List.mem_cons.mp h with h | h
        · exact .inl h
        · exact .inr (List.mem_cons_of_mem _ h)
      · rcases List.mem_cons.mp h with h | h
        · exact .inr (h ▸ List.mem_cons_self ..)
        · rcases ih h with h | h
          · exact .inl h
          · exact .inr (List.mem_cons_of_mem _ h)

/-- A write below the capacity keeps the canonical form. -/
theorem Table.wf_put {capacity : Nat} {t : Table α} {i : Nat} (x : α) (h : Table.wf capacity t = true)
    (hi : i < capacity) : Table.wf capacity (Table.put t i x) = true := by
  rw [Table.wf_iff] at h ⊢
  refine ⟨?_, ?_⟩
  · have hp := h.1
    clear h
    induction t with
    | nil => simp [Table.put]
    | cons d t ih =>
      obtain ⟨k, y⟩ := d
      simp only [List.map_cons, List.pairwise_cons] at hp
      simp only [Table.put]
      split
      · next hlt =>
        simp only [List.map_cons, List.pairwise_cons]
        refine ⟨?_, hp⟩
        intro z hz
        rcases List.mem_cons.mp hz with rfl | hz
        · exact hlt
        · exact Nat.lt_trans hlt (hp.1 z hz)
      · split
        · next hk => subst hk; simpa only [List.map_cons, List.pairwise_cons] using hp
        · next h1 h2 =>
          simp only [List.map_cons, List.pairwise_cons]
          refine ⟨?_, ih hp.2⟩
          intro z hz
          obtain ⟨e, he, rfl⟩ := List.mem_map.mp hz
          rcases Table.mem_put he with rfl | he
          · exact Nat.lt_of_le_of_ne (Nat.le_of_not_lt h1) h2
          · exact hp.1 _ (List.mem_map_of_mem he)
  · intro e he
    rcases Table.mem_put he with rfl | he
    · exact hi
    · exact h.2 e he

/-- Freeing an index keeps the canonical form. -/
theorem Table.wf_free {capacity : Nat} {t : Table α} (i : Nat) (h : Table.wf capacity t = true) :
    Table.wf capacity (Table.free t i) = true := by
  rw [Table.wf_iff] at h ⊢
  refine ⟨?_, fun e he => h.2 e (List.mem_of_mem_filter he)⟩
  exact h.1.sublist (List.Sublist.map _ List.filter_sublist)

/-- In a canonical table a read finds exactly the entries. -/
theorem Table.get_eq_some_iff {capacity : Nat} {t : Table α} (h : Table.wf capacity t = true) (i : Nat) (x : α) :
    Table.get t i = some x ↔ (i, x) ∈ t := by
  rw [Table.wf_iff] at h
  have hp := h.1
  clear h
  induction t with
  | nil => simp
  | cons d t ih =>
    obtain ⟨k, y⟩ := d
    simp only [List.map_cons, List.pairwise_cons] at hp
    rw [Table.get_cons, List.mem_cons]
    by_cases hk : k = i
    · subst hk
      simp only [if_true, Option.some.injEq, Prod.mk.injEq, true_and]
      constructor
      · intro e; exact .inl e.symm
      · rintro (e | e)
        · exact e.symm
        · exact absurd (hp.1 k (List.mem_map.mpr ⟨_, e, rfl⟩)) (Nat.lt_irrefl _)
    · simp only [if_neg hk, ih hp.2, Prod.mk.injEq]
      constructor
      · exact .inr
      · rintro (⟨e, -⟩ | e)
        · exact absurd e.symm hk
        · exact e

/-- What a read finds stands in the table. -/
theorem Table.mem_of_get {t : Table α} {i : Nat} {x : α} (h : Table.get t i = some x) : (i, x) ∈ t := by
  induction t with
  | nil => simp at h
  | cons d t ih =>
    obtain ⟨k, y⟩ := d
    rw [Table.get_cons] at h
    by_cases hk : k = i
    · subst hk
      rw [if_pos rfl, Option.some.injEq] at h
      exact h ▸ List.mem_cons_self ..
    · rw [if_neg hk] at h
      exact List.mem_cons_of_mem _ (ih h)

/-! ### The lowest free index -/

theorem Table.freeFrom_eq_some {t : Table α} {fuel i j : Nat} :
    Table.freeFrom t fuel i = some j ↔
      i ≤ j ∧ j < i + fuel ∧ Table.get t j = none ∧ ∀ k, i ≤ k → k < j → Table.get t k ≠ none := by
  induction fuel generalizing i with
  | zero => simp only [Table.freeFrom]; constructor
            · intro h; cases h
            · rintro ⟨h1, h2, -⟩; omega
  | succ fuel ih =>
    simp only [Table.freeFrom]
    split
    · next h =>
      rw [Option.isNone_iff_eq_none] at h
      simp only [Option.some.injEq]
      constructor
      · rintro rfl
        exact ⟨Nat.le_refl _, by omega, h, fun k hk1 hk2 => by omega⟩
      · rintro ⟨h1, _, _, h4⟩
        by_contra hne
        exact h4 i (Nat.le_refl _) (by omega) h
    · next h =>
      rw [Option.isNone_iff_eq_none] at h
      rw [ih]
      constructor
      · rintro ⟨h1, h2, h3, h4⟩
        refine ⟨by omega, by omega, h3, ?_⟩
        intro k hk1 hk2
        by_cases hki : k = i
        · subst hki; exact h
        · exact h4 k (by omega) hk2
      · rintro ⟨h1, h2, h3, h4⟩
        have : i ≠ j := by rintro rfl; exact h h3
        exact ⟨by omega, by omega, h3, fun k hk1 hk2 => h4 k (by omega) hk2⟩

/-- The lowest free index is free, lies below the capacity, and none below it is free. -/
theorem Table.lowestFree_eq_some {t : Table α} {capacity i : Nat} :
    Table.lowestFree t capacity = some i ↔
      i < capacity ∧ Table.get t i = none ∧ ∀ j, j < i → Table.get t j ≠ none := by
  rw [Table.lowestFree, Table.freeFrom_eq_some]
  constructor
  · rintro ⟨-, h2, h3, h4⟩
    exact ⟨by omega, h3, fun j hj => h4 j (Nat.zero_le _) hj⟩
  · rintro ⟨h1, h2, h3⟩
    exact ⟨Nat.zero_le _, by omega, h2, fun k _ hk => h3 k hk⟩

/-- No index is free exactly when there is no lowest one. -/
theorem Table.lowestFree_eq_none {t : Table α} {capacity : Nat} :
    Table.lowestFree t capacity = none ↔ ∀ j, j < capacity → Table.get t j ≠ none := by
  constructor
  · intro h j hj hn
    have hex : ∃ i, Table.get t i = none ∧ i < capacity := ⟨j, hn, hj⟩
    classical
    have hm := Nat.find_spec hex
    have : Table.lowestFree t capacity = some (Nat.find hex) := by
      rw [Table.lowestFree_eq_some]
      refine ⟨hm.2, hm.1, ?_⟩
      intro k hk hkn
      exact Nat.find_min hex hk ⟨hkn, Nat.lt_trans hk hm.2⟩
    rw [h] at this
    cases this
  · intro h
    cases hl : Table.lowestFree t capacity with
    | none => rfl
    | some i =>
      rw [Table.lowestFree_eq_some] at hl
      exact absurd hl.2.1 (h i hl.1)

end Sys2Proof.Machine
end

