-- ==== Sys2Proof/Laws/Moderators.lean ====
section
/-! SUPPORT. What the moderator's operations can do: they write moderators, digest places and agent statistics, and nothing
else; and one agent's moderator is written by the operations addressed to it alone. -/

namespace Sys2Proof.Machine

/-! ### Reads of one agent after a write -/

section
variable (s : State)

theorem State.putPort_port (a b : AgentId) (x : Port) :
    (s.putPort a x).port b = if b = a then x else s.port b := Per.get_put ..
@[simp] theorem State.putPort_port_self (a : AgentId) (x : Port) : (s.putPort a x).port a = x := by
  simp [State.putPort_port]
theorem State.putModerator_moderator (a b : AgentId) (x : Moderator) :
    (s.putModerator a x).moderator b = if b = a then x else s.moderator b := Per.get_put ..
@[simp] theorem State.putModerator_moderator_self (a : AgentId) (x : Moderator) :
    (s.putModerator a x).moderator a = x := by
  simp [State.putModerator_moderator]
theorem State.putSession_session (a b : AgentId) (x : Session) :
    (s.putSession a x).session b = if b = a then x else s.session b := Per.get_put ..
@[simp] theorem State.putSession_session_self (a : AgentId) (x : Session) : (s.putSession a x).session a = x := by
  simp [State.putSession_session]
theorem State.putCounts_counts (a b : AgentId) (x : Counts) :
    (s.putCounts a x).counts b = if b = a then x else s.counts b := Per.get_put ..
@[simp] theorem State.putCounts_counts_self (a : AgentId) (x : Counts) : (s.putCounts a x).counts a = x := by
  simp [State.putCounts_counts]
@[simp] theorem State.editCounts_eq (a : AgentId) (f : Counts → Counts) :
    s.editCounts a f = s.putCounts a (f (s.counts a)) := rfl

end

/-! ### The frame of the moderators -/

/-- `t` differs from `s` at most in moderators, digest places and agent statistics. -/
structure ModeratorFrame (s t : State) : Prop where
  resetN : t.resetN = s.resetN
  dir : t.dir = s.dir
  arbiter : t.arbiter = s.arbiter
  deadlines : t.deadlines = s.deadlines
  clock : t.clock = s.clock
  sessions : t.sessions = s.sessions
  sweep : t.sweep = s.sweep
  spi : t.spi = s.spi
  upsets : t.upsets = s.upsets
  pending : t.pending = s.pending
  mgmt : t.mgmt = { s.mgmt with stats := t.mgmt.stats }
  port : ∀ b, t.port b = { s.port b with digestPlace := (t.port b).digestPlace }

theorem ModeratorFrame.refl (s : State) : ModeratorFrame s s := by constructor <;> intros <;> rfl

theorem ModeratorFrame.trans {s t u : State} (h : ModeratorFrame s t) (k : ModeratorFrame t u) : ModeratorFrame s u where
  resetN := k.resetN.trans h.resetN
  dir := k.dir.trans h.dir
  arbiter := k.arbiter.trans h.arbiter
  deadlines := k.deadlines.trans h.deadlines
  clock := k.clock.trans h.clock
  sessions := k.sessions.trans h.sessions
  sweep := k.sweep.trans h.sweep
  spi := k.spi.trans h.spi
  upsets := k.upsets.trans h.upsets
  pending := k.pending.trans h.pending
  mgmt := by rw [k.mgmt, h.mgmt]
  port b := by rw [k.port b, h.port b]

theorem ModeratorFrame.session {s t : State} (h : ModeratorFrame s t) (b : AgentId) : t.session b = s.session b := by
  simp only [State.session, h.sessions]
theorem ModeratorFrame.slot {s t : State} (h : ModeratorFrame s t) (k : Nat) : t.slot k = s.slot k := by
  simp only [State.slot, h.dir]
theorem ModeratorFrame.record {s t : State} (h : ModeratorFrame s t) (k : Nat) : t.record k = s.record k := by
  simp only [State.record, h.slot]
theorem ModeratorFrame.member {s t : State} (h : ModeratorFrame s t) (k : Nat) : t.member k = s.member k := by
  simp only [State.member, h.dir]
theorem ModeratorFrame.counts {s t : State} (h : ModeratorFrame s t) (b : AgentId) : t.counts b = s.counts b := by
  simp only [State.counts, h.dir]

theorem State.putModerator_frame (s : State) (a : AgentId) (x : Moderator) : ModeratorFrame s (s.putModerator a x) := by
  constructor <;> intros <;> rfl

theorem State.countAgent_frame (s : State) (a : AgentId) (k : AgentStat) :
    ModeratorFrame s (s.count (.agent a k)) := by
  constructor <;> intros <;> rfl

theorem State.handDigest_frame (s : State) (a : AgentId) (d : Digest) : ModeratorFrame s (s.handDigest a d) := by
  simp only [State.handDigest]
  split
  · refine ⟨rfl, rfl, rfl, rfl, rfl, rfl, rfl, rfl, rfl, rfl, rfl, fun b => ?_⟩
    by_cases h : b = a
    · subst h; simp
    · simp [State.putPort_port, h]
  · exact .refl s

theorem State.emit_frame (s : State) (a : AgentId) : ModeratorFrame s (s.emit a) :=
  ((s.putModerator_frame a _).trans (State.countAgent_frame _ a _)).trans (State.handDigest_frame _ a _)

theorem State.checkEmission_frame (s : State) (a : AgentId) : ModeratorFrame s (s.checkEmission a) := by
  simp only [State.checkEmission]
  split
  · exact s.emit_frame a
  · exact .refl s

theorem State.enterCollecting_frame (s : State) (a : AgentId) : ModeratorFrame s (s.enterCollecting a) :=
  (s.putModerator_frame a _).trans (State.checkEmission_frame _ a)

theorem State.notify_frame (s : State) (a : AgentId) (n : Notification) : ModeratorFrame s (s.notify a n) := by
  simp only [State.notify]
  repeat' split
  · exact (s.putModerator_frame a _).trans (State.enterCollecting_frame _ a)
  · exact (s.putModerator_frame a _).trans (State.checkEmission_frame _ a)
  · exact s.putModerator_frame a _
  · exact s.putModerator_frame a _
  · exact (s.putModerator_frame a _).trans (State.checkEmission_frame _ a)
  · exact s.putModerator_frame a _
  · exact s.putModerator_frame a _
  · exact s.putModerator_frame a _
  · exact .refl s

theorem State.flushModerator_frame (s : State) (a : AgentId) : ModeratorFrame s (s.flushModerator a) := by
  simp only [State.flushModerator]
  split
  · exact s.emit_frame a
  all_goals exact .refl s

theorem State.acceptAck_frame (s : State) (a : AgentId) (d : Digest) : ModeratorFrame s (s.acceptAck a d) := by
  simp only [State.acceptAck]
  repeat' split
  all_goals
    first
    | exact s.putModerator_frame a _
    | exact (s.putModerator_frame a _).trans (State.enterCollecting_frame _ a)

theorem State.judgeAck_frame (s : State) (a : AgentId) (n : Byte) (e : Epoch) :
    ModeratorFrame s (s.judgeAck a n e) := by
  simp only [State.judgeAck]
  repeat' split
  · exact s.countAgent_frame a _
  · exact .refl s
  · exact s.acceptAck_frame a _
  · exact s.countAgent_frame a _
  · exact s.countAgent_frame a _
  · exact .refl s

theorem State.resend_frame (s : State) (a : AgentId) (d : Digest) (n : Nat) : ModeratorFrame s (s.resend a d n) :=
  ((s.putModerator_frame a _).trans (State.countAgent_frame _ a _)).trans (State.handDigest_frame _ a _)

theorem State.resumeModerator_frame (s : State) (a : AgentId) : ModeratorFrame s (s.resumeModerator a) := by
  simp only [State.resumeModerator]
  repeat' split
  · exact s.resend_frame a _ _
  · exact s.putModerator_frame a _
  · exact (s.putModerator_frame a _).trans (State.enterCollecting_frame _ a)

theorem State.openModerator_frame (s : State) (a : AgentId) (e : Epoch) : ModeratorFrame s (s.openModerator a e) :=
  s.putModerator_frame a _

theorem State.stallModerator_frame (s : State) (a : AgentId) : ModeratorFrame s (s.stallModerator a) :=
  s.putModerator_frame a _

theorem State.retireModerator_frame (s : State) (a : AgentId) : ModeratorFrame s (s.retireModerator a) := by
  refine ⟨rfl, rfl, rfl, rfl, rfl, rfl, rfl, rfl, rfl, rfl, rfl, fun b => ?_⟩
  by_cases h : b = a
  · subst h; simp only [State.retireModerator, State.putPort_port_self]; rfl
  · simp only [State.retireModerator, State.putPort_port, if_neg h]; rfl

/-! ### One agent's moderator -/

/-- `t`'s moderators agree with `s`'s but for agent `a`'s. -/
def OneModerator (a : AgentId) (s t : State) : Prop := ∀ b, b ≠ a → t.moderator b = s.moderator b

theorem OneModerator.refl (a : AgentId) (s : State) : OneModerator a s s := fun _ _ => rfl

theorem OneModerator.trans {a : AgentId} {s t u : State} (h : OneModerator a s t) (k : OneModerator a t u) :
    OneModerator a s u := fun b hb => (k b hb).trans (h b hb)

theorem State.putModerator_one (s : State) (a : AgentId) (x : Moderator) : OneModerator a s (s.putModerator a x) :=
  fun b hb => by simp [State.putModerator_moderator, hb]

theorem State.handDigest_one (s : State) (a : AgentId) (d : Digest) : OneModerator a s (s.handDigest a d) := by
  simp only [State.handDigest]
  split
  · exact fun _ _ => rfl
  · exact .refl a s

theorem State.emit_one (s : State) (a : AgentId) : OneModerator a s (s.emit a) :=
  (s.putModerator_one a _).trans (State.handDigest_one (State.count _ _) a _)

theorem State.checkEmission_one (s : State) (a : AgentId) : OneModerator a s (s.checkEmission a) := by
  simp only [State.checkEmission]
  split
  · exact s.emit_one a
  · exact .refl a s

theorem State.enterCollecting_one (s : State) (a : AgentId) : OneModerator a s (s.enterCollecting a) :=
  (s.putModerator_one a _).trans (State.checkEmission_one _ a)

theorem State.notify_one (s : State) (a : AgentId) (n : Notification) : OneModerator a s (s.notify a n) := by
  simp only [State.notify]
  repeat' split
  · exact (s.putModerator_one a _).trans (State.enterCollecting_one _ a)
  · exact (s.putModerator_one a _).trans (State.checkEmission_one _ a)
  · exact s.putModerator_one a _
  · exact s.putModerator_one a _
  · exact (s.putModerator_one a _).trans (State.checkEmission_one _ a)
  · exact s.putModerator_one a _
  · exact s.putModerator_one a _
  · exact s.putModerator_one a _
  · exact .refl a s

end Sys2Proof.Machine
end

