-- ==== Sys2Proof/Laws/Records.lean ====
section
/-! SUPPORT. What the operations on records and memberships can do, up to the grant pass: those that tell nobody write
slots, entries, counts and deadlines; the others also write moderators, digest places and statistics. -/

namespace Sys2Proof.Machine

/-! ### The frame of the engine -/

/-- `t` differs from `s` at most in the directory's contents, the deadline list, moderators, digest places and agent
statistics. -/
structure EngineFrame (s t : State) : Prop where
  resetN : t.resetN = s.resetN
  state : t.dir.state = s.dir.state
  haltCause : t.dir.haltCause = s.dir.haltCause
  arbiter : t.arbiter = s.arbiter
  clock : t.clock = s.clock
  sessions : t.sessions = s.sessions
  sweep : t.sweep = s.sweep
  spi : t.spi = s.spi
  upsets : t.upsets = s.upsets
  pending : t.pending = s.pending
  mgmt : t.mgmt = { s.mgmt with stats := t.mgmt.stats }
  port : ∀ b, t.port b = { s.port b with digestPlace := (t.port b).digestPlace }

theorem EngineFrame.refl (s : State) : EngineFrame s s := by constructor <;> intros <;> rfl

theorem EngineFrame.trans {s t u : State} (h : EngineFrame s t) (k : EngineFrame t u) : EngineFrame s u where
  resetN := k.resetN.trans h.resetN
  state := k.state.trans h.state
  haltCause := k.haltCause.trans h.haltCause
  arbiter := k.arbiter.trans h.arbiter
  clock := k.clock.trans h.clock
  sessions := k.sessions.trans h.sessions
  sweep := k.sweep.trans h.sweep
  spi := k.spi.trans h.spi
  upsets := k.upsets.trans h.upsets
  pending := k.pending.trans h.pending
  mgmt := by rw [k.mgmt, h.mgmt]
  port b := by rw [k.port b, h.port b]

theorem EngineFrame.session {s t : State} (h : EngineFrame s t) (b : AgentId) : t.session b = s.session b := by
  simp only [State.session, h.sessions]

theorem ModeratorFrame.engine {s t : State} (h : ModeratorFrame s t) : EngineFrame s t where
  resetN := h.resetN
  state := by rw [h.dir]
  haltCause := by rw [h.dir]
  arbiter := h.arbiter
  clock := h.clock
  sessions := h.sessions
  sweep := h.sweep
  spi := h.spi
  upsets := h.upsets
  pending := h.pending
  mgmt := h.mgmt
  port := h.port

/-- `t` differs from `s` at most in record slots, membership entries, counts and deadline entries. -/
structure QuietFrame (s t : State) : Prop extends EngineFrame s t where
  moderators : t.moderators = s.moderators
  ports : t.ports = s.ports
  stats : t.mgmt = s.mgmt

theorem QuietFrame.refl (s : State) : QuietFrame s s := ⟨.refl s, rfl, rfl, rfl⟩

theorem QuietFrame.trans {s t u : State} (h : QuietFrame s t) (k : QuietFrame t u) : QuietFrame s u :=
  ⟨h.toEngineFrame.trans k.toEngineFrame, k.moderators.trans h.moderators, k.ports.trans h.ports, k.stats.trans h.stats⟩

section
variable (s : State)

/-! ### The writes -/

theorem State.putSlot_quiet (h : Nat) (x : Slot) : QuietFrame s (s.putSlot h x) := by
  refine ⟨?_, rfl, rfl, rfl⟩; constructor <;> intros <;> rfl
theorem State.freeSlot_quiet (h : Nat) : QuietFrame s (s.freeSlot h) := by
  refine ⟨?_, rfl, rfl, rfl⟩; constructor <;> intros <;> rfl
theorem State.putMember_quiet (i : Nat) (x : Membership) : QuietFrame s (s.putMember i x) := by
  refine ⟨?_, rfl, rfl, rfl⟩; constructor <;> intros <;> rfl
theorem State.freeMember_quiet (i : Nat) : QuietFrame s (s.freeMember i) := by
  refine ⟨?_, rfl, rfl, rfl⟩; constructor <;> intros <;> rfl
theorem State.putCounts_quiet (a : AgentId) (x : Counts) : QuietFrame s (s.putCounts a x) := by
  refine ⟨?_, rfl, rfl, rfl⟩; constructor <;> intros <;> rfl
theorem State.advanceToken_quiet : QuietFrame s s.advanceToken := by
  refine ⟨?_, rfl, rfl, rfl⟩; constructor <;> intros <;> rfl
theorem State.removeDeadline_quiet (i : Nat) : QuietFrame s (s.removeDeadline i) := by
  refine ⟨?_, rfl, rfl, rfl⟩; constructor <;> intros <;> rfl
theorem State.setDeadlines_quiet (d : DeadlineUnit) : QuietFrame s { s with deadlines := d } := by
  refine ⟨?_, rfl, rfl, rfl⟩; constructor <;> intros <;> rfl

theorem State.editRecord_quiet (h : Nat) (f : Record → Record) : QuietFrame s (s.editRecord h f) := by
  simp only [State.editRecord]
  split
  · exact s.putSlot_quiet h _
  · exact .refl s

theorem State.editMember_quiet (i : Nat) (f : Membership → Membership) : QuietFrame s (s.editMember i f) := by
  simp only [State.editMember]
  split
  · exact s.putMember_quiet i _
  · exact .refl s

theorem State.withdrawDeadline_quiet (i : Nat) : QuietFrame s (s.withdrawDeadline i) := by
  simp only [State.withdrawDeadline]
  repeat' split
  · exact .refl s
  · exact (s.putMember_quiet i _).trans (State.setDeadlines_quiet _ _)
  · exact .refl s

theorem State.registerDeadline_quiet (i : Nat) (k : DeadlineKind) (d : BitVec 16) :
    QuietFrame s (s.registerDeadline i k d) := by
  simp only [State.registerDeadline]
  repeat' split
  · exact .refl s
  · exact .refl s
  · exact ((s.removeDeadline_quiet i).trans (State.setDeadlines_quiet _ _)).trans (State.putMember_quiet _ i _)

/-! ### Memberships -/

theorem State.allocate_quiet (i : Nat) (m : Membership) : QuietFrame s (s.allocate i m) :=
  (s.putMember_quiet i _).trans (State.putCounts_quiet _ _ _)

theorem State.freeEntry_quiet (i : Nat) (m : Membership) : QuietFrame s (s.freeEntry i m) :=
  (s.freeMember_quiet i).trans (State.putCounts_quiet _ _ _)

theorem State.clearUpgrade_quiet (h i : Nat) : QuietFrame s (s.clearUpgrade h i) := by
  simp only [State.clearUpgrade]
  split
  · exact .refl s
  · exact (((s.withdrawDeadline_quiet i).trans (State.editMember_quiet _ i _)).trans
      (State.editRecord_quiet _ h _)).trans (State.putCounts_quiet _ _ _)

theorem State.removeHold_quiet (h i : Nat) : QuietFrame s (s.removeHold h i) := by
  simp only [State.removeHold]
  split
  · exact .refl s
  · split
    · exact ((s.editRecord_quiet h _).trans (State.clearUpgrade_quiet _ h i)).trans (State.freeEntry_quiet _ i _)
    · exact (s.editRecord_quiet h _).trans (State.freeEntry_quiet _ i _)

theorem State.removeWait_quiet (h i : Nat) : QuietFrame s (s.removeWait h i) := by
  simp only [State.removeWait]
  split
  · exact .refl s
  · exact ((s.editRecord_quiet h _).trans (State.withdrawDeadline_quiet _ i)).trans (State.freeEntry_quiet _ i _)

theorem State.freeDetached_quiet (i : Nat) (m : Membership) : QuietFrame s (s.freeDetached i m) := by
  simp only [State.freeDetached]
  split
  · exact ((s.withdrawDeadline_quiet i).trans (State.freeEntry_quiet _ i m)).trans (State.putCounts_quiet _ _ _)
  · exact (s.withdrawDeadline_quiet i).trans (State.freeEntry_quiet _ i m)

theorem State.retireIfEmpty_quiet (h : Nat) : QuietFrame s (s.retireIfEmpty h) := by
  simp only [State.retireIfEmpty]
  repeat' split
  · exact s.freeSlot_quiet h
  · exact .refl s
  · exact .refl s

/-! ### Contention -/

theorem State.contend_frame (h : Nat) (w : Mode) (i : Nat) : EngineFrame s (s.contend h w i) := by
  simp only [State.contend]
  repeat' split
  · exact .refl s
  · exact (s.putMember_quiet i _).toEngineFrame.trans (State.notify_frame _ _ _).engine
  · exact .refl s

theorem State.contendAll_frame (h : Nat) (w : Mode) (l : List Nat) : EngineFrame s (s.contendAll h w l) := by
  induction l generalizing s with
  | nil => exact .refl s
  | cons i l ih => exact (s.contend_frame h w i).trans (ih _)

theorem State.contentionCheck_frame (h i : Nat) : EngineFrame s (s.contentionCheck h i) := by
  simp only [State.contentionCheck]
  repeat' split
  · exact .refl s
  · exact .refl s
  · exact .refl s
  · exact s.contend_frame h _ i

/-! ### The grant pass -/

theorem State.makeExclusive_quiet (h i : Nat) : QuietFrame s (s.makeExclusive h i) :=
  ((s.editRecord_quiet h _).trans (State.editMember_quiet _ i _)).trans (State.advanceToken_quiet _)

theorem State.grantUpgrade_frame (h i : Nat) : EngineFrame s (s.grantUpgrade h i) := by
  simp only [State.grantUpgrade]
  split
  · exact .refl s
  · exact (((((s.clearUpgrade_quiet h i).trans (State.makeExclusive_quiet _ h i)).toEngineFrame).trans
      (State.notify_frame _ _ _).engine).trans (State.countAgent_frame _ _ _).engine).trans
        (State.contentionCheck_frame _ h i)

theorem State.upgradeStage_frame (h : Nat) : EngineFrame s (s.upgradeStage h).1 := by
  simp only [State.upgradeStage]
  repeat' split
  · exact .refl s
  · exact .refl s
  · exact .refl s
  · exact (s.clearUpgrade_quiet h _).toEngineFrame
  · exact s.grantUpgrade_frame h _
  · exact .refl s

theorem State.grantWaiter_frame (h i : Nat) : EngineFrame s (s.grantWaiter h i) := by
  simp only [State.grantWaiter]
  split
  · exact .refl s
  · exact (((((((s.withdrawDeadline_quiet i).trans (State.editMember_quiet _ i _)).trans
      (State.editRecord_quiet _ h _)).trans (State.advanceToken_quiet _)).trans
        (State.putCounts_quiet _ _ _)).toEngineFrame).trans (State.notify_frame _ _ _).engine).trans
          (State.countAgent_frame _ _ _).engine

end

theorem State.grantRun_frame (h n : Nat) (g : List Nat) (s : State) : EngineFrame s (State.grantRun h n g s).1 := by
  induction n generalizing g s with
  | zero => exact .refl s
  | succ n ih =>
    simp only [State.grantRun]
    repeat' split
    · exact .refl s
    · exact .refl s
    · exact .refl s
    · exact (s.removeWait_quiet h _).toEngineFrame.trans (ih _ _)
    · exact .refl s
    · exact (s.grantWaiter_frame h _).trans (ih _ _)
    · exact .refl s
    · exact .refl s

theorem State.contentionChecks_frame (h : Nat) (l : List Nat) (s : State) :
    EngineFrame s (l.foldl (fun s i => s.contentionCheck h i) s) := by
  induction l generalizing s with
  | nil => exact .refl s
  | cons i l ih => exact (s.contentionCheck_frame h i).trans (ih _)

theorem State.waiterStage_frame (h : Nat) (s : State) : EngineFrame s (s.waiterStage h) := by
  simp only [State.waiterStage]
  split
  · exact .refl s
  · exact (State.grantRun_frame h _ _ s).trans (State.contentionChecks_frame h _ _)

/-- The grant pass writes the directory's contents, the deadline list, moderators, digest places and statistics only. -/
theorem State.grantPass_frame (h : Nat) (s : State) : EngineFrame s (s.grantPass h) := by
  simp only [State.grantPass]
  split
  · exact (s.upgradeStage_frame h).trans (State.retireIfEmpty_quiet _ h).toEngineFrame
  · exact ((s.upgradeStage_frame h).trans (State.waiterStage_frame h _)).trans
      (State.retireIfEmpty_quiet _ h).toEngineFrame

/-! ### Check failures -/

/-- The damage of the moment uses one item of the list, and touches no more than a check code of a slot or an entry. -/
theorem State.sufferUpset_eq (s : State) :
    s.sufferUpset =
      { s with
        upsets := s.upsets.tail
        dir := { s.dir with slots := s.sufferUpset.dir.slots, pool := s.sufferUpset.dir.pool } } := by
  cases hu : s.upsets with
  | nil => simp only [State.sufferUpset, hu, List.tail_nil]; rw [← hu]
  | cons u rest =>
    simp only [State.sufferUpset, hu, List.tail_cons]
    repeat' split
    all_goals rfl

/-- Damage frees no slot and fills none. -/
theorem State.sufferUpset_slot_none (s : State) (h : Nat) : s.sufferUpset.slot h = none ↔ s.slot h = none := by
  cases hu : s.upsets with
  | nil => simp only [State.sufferUpset, hu]
  | cons u rest =>
    simp only [State.sufferUpset, hu]
    repeat' split
    · exact Iff.rfl
    · next k r hr =>
      simp only [State.slot, State.putSlot_dir_slots, Table.get_put]
      split
      · next e =>
        subst e
        simp only [State.record, State.slot] at hr
        split at hr
        · next h' => simp [h']
        · cases hr
      · exact Iff.rfl
    · exact Iff.rfl
    · exact Iff.rfl
    · exact Iff.rfl

/-- Damage frees no entry and fills none. -/
theorem State.sufferUpset_member_none (s : State) (i : Nat) : s.sufferUpset.member i = none ↔ s.member i = none := by
  cases hu : s.upsets with
  | nil => simp only [State.sufferUpset, hu]
  | cons u rest =>
    simp only [State.sufferUpset, hu]
    repeat' split
    · exact Iff.rfl
    · exact Iff.rfl
    · exact Iff.rfl
    · next k m hm =>
      simp only [State.member, Table.get_put]
      split
      · next e => subst e; simp only [State.member] at hm; simp [hm]
      · exact Iff.rfl
    · exact Iff.rfl

end Sys2Proof.Machine
end

