-- ==== Sys2Proof/Laws/Grants.lean ====
section
/-! SUPPORT. What one round of the grant pass does to its own record and to the other memberships: what an induction over
the waiter queue needs of it. -/

namespace Sys2Proof.Machine

variable {s : State} {h i j : Nat} {r : Record} {m : Membership}

/-! ### A deadline and an edit -/

@[simp] theorem State.withdrawDeadline_record (s : State) (i h : Nat) :
    (s.withdrawDeadline i).record h = s.record h := by
  simp only [State.withdrawDeadline]
  repeat' split
  all_goals rfl

theorem State.withdrawDeadline_member_of_ne (hj : j ≠ i) : (s.withdrawDeadline i).member j = s.member j := by
  simp only [State.withdrawDeadline]
  repeat' split
  · rfl
  · exact Table.get_put_of_ne _ _ hj
  · rfl

@[simp] theorem State.editMember_record (s : State) (i h : Nat) (f : Membership → Membership) :
    (s.editMember i f).record h = s.record h := by
  simp only [State.editMember]
  split <;> rfl

theorem State.editMember_member_of_ne (f : Membership → Membership) (hj : j ≠ i) :
    (s.editMember i f).member j = s.member j := by
  simp only [State.editMember]
  split
  · exact Table.get_put_of_ne _ _ hj
  · rfl

@[simp] theorem State.editRecord_member (s : State) (h j : Nat) (f : Record → Record) :
    (s.editRecord h f).member j = s.member j := by
  simp only [State.editRecord]
  split <;> rfl

theorem State.editRecord_record (f : Record → Record) (hr : s.record h = some r) :
    (s.editRecord h f).record h = some { f r with checkOk := true } := by
  simp only [State.editRecord, hr]
  simp [State.putRecord, State.putSlot, State.record, State.slot]

@[simp] theorem State.notify_record (s : State) (a : AgentId) (n : Notification) (h : Nat) :
    (s.notify a n).record h = s.record h := by
  simp only [State.record, State.slot, (s.notify_frame a n).dir]

@[simp] theorem State.notify_member (s : State) (a : AgentId) (n : Notification) (i : Nat) :
    (s.notify a n).member i = s.member i := by
  simp only [State.member, (s.notify_frame a n).dir]

/-! ### Removal and grant of the head waiter (R30, R44, R48) -/

theorem State.removeWait_record (hr : s.record h = some r) (hm : s.member i = some m) :
    (s.removeWait h i).record h =
      some { r with waiters := r.waiters.filter (fun j => decide (j ≠ i)), checkOk := true } := by
  have free (t : State) : (t.freeEntry i m).record h = t.record h := rfl
  simp only [State.removeWait, hm]
  rw [free, State.withdrawDeadline_record, State.editRecord_record _ hr]

theorem State.removeWait_member_of_ne (hj : j ≠ i) : (s.removeWait h i).member j = s.member j := by
  simp only [State.removeWait]
  split
  · rfl
  · next m _ =>
    have free (t : State) : (t.freeEntry i m).member j = t.member j := Table.get_free_of_ne _ hj
    rw [free, State.withdrawDeadline_member_of_ne hj, State.editRecord_member]

/-- The granted waiter leaves the queue and joins the holders. -/
theorem State.grantWaiter_record (hr : s.record h = some r) (hm : s.member i = some m) :
    (s.grantWaiter h i).record h =
      some
        { r with
          mode := if r.holders.isEmpty then m.mode else r.mode
          waiters := r.waiters.filter (fun j => decide (j ≠ i))
          holders := r.holders ++ [i]
          checkOk := true } := by
  have count (t : State) (k : StatReg) : (t.count k).record h = t.record h := rfl
  have counts (t : State) (f : Counts → Counts) : (t.advanceToken.editCounts m.agent f).record h = t.record h := rfl
  simp only [State.grantWaiter, hm]
  rw [count, State.notify_record, counts,
    State.editRecord_record _ (r := r) (by rw [State.editMember_record, State.withdrawDeadline_record]; exact hr)]

theorem State.grantWaiter_member_of_ne (hj : j ≠ i) : (s.grantWaiter h i).member j = s.member j := by
  simp only [State.grantWaiter]
  split
  · rfl
  · next m _ =>
    have count (t : State) (k : StatReg) : (t.count k).member j = t.member j := rfl
    have counts (t : State) (f : Counts → Counts) : (t.advanceToken.editCounts m.agent f).member j = t.member j := rfl
    rw [count, State.notify_member, counts, State.editRecord_member, State.editMember_member_of_ne _ hj,
      State.withdrawDeadline_member_of_ne hj]

/-! ### The pending upgrade of a RETIRING holder (R31, R45) -/

theorem State.clearUpgrade_record (hr : s.record h = some r) (hm : s.member i = some m) :
    (s.clearUpgrade h i).record h = some { r with upgrade := none, checkOk := true } := by
  have counts (t : State) (f : Counts → Counts) : (t.editCounts m.agent f).record h = t.record h := rfl
  simp only [State.clearUpgrade, hm]
  rw [counts,
    State.editRecord_record _ (r := r) (by rw [State.editMember_record, State.withdrawDeadline_record]; exact hr)]

theorem State.clearUpgrade_member_of_ne (hj : j ≠ i) : (s.clearUpgrade h i).member j = s.member j := by
  simp only [State.clearUpgrade]
  split
  · rfl
  · next m _ =>
    have counts (t : State) (f : Counts → Counts) : (t.editCounts m.agent f).member j = t.member j := rfl
    rw [counts, State.editRecord_member, State.editMember_member_of_ne _ hj, State.withdrawDeadline_member_of_ne hj]

end Sys2Proof.Machine
end

