-- ==== Sys2Proof/Laws/Registers.lean ====
section
/-! SUPPORT. The register map: which register stands at each address (Tables 11-10 and 11-11). -/

namespace Sys2Proof.Machine

theorem agentBlock_agentAddress (a : AgentId) {o : Nat} (ho : o < 256) : agentBlock (agentAddress a o) = some (a, o) := by
  have ha := a.isLt
  have hn : (agentAddress a o).toNat = 512 + 256 * a.val + o := by
    simp only [agentAddress, BitVec.toNat_ofNat]
    omega
  have hd : (512 + 256 * a.val + o) / 256 = 2 + a.val := by omega
  have hm : (512 + 256 * a.val + o) % 256 = o := by omega
  simp only [agentBlock, hn, hd, hm]
  rw [dif_pos (by omega)]
  simp

/-- The device registers stand below the agents' blocks. -/
theorem agentBlock_of_lt {address : BitVec 16} (h : address.toNat < 512) : agentBlock address = none := by
  simp only [agentBlock]
  rw [dif_neg (by omega)]

@[simp] theorem configAt_configAddress (r : ConfigReg) : configAt (configAddress r) = some r := by
  cases r with
  | membershipQuota a => simp only [configAt, configAddress, agentBlock_agentAddress a (by omega : 0x20 < 256)]
  | waitQuota a => simp only [configAt, configAddress, agentBlock_agentAddress a (by omega : 0x24 < 256)]
  | _ => rfl

theorem statOffset_bounds (k : AgentStat) : 0x40 ≤ statOffset k ∧ statOffset k < 0x68 := by
  cases k <;> decide

@[simp] theorem statAt_statAddress (r : StatReg) : statAt (statAddress r) = some r := by
  cases r with
  | quarantines => rfl
  | agent a k =>
    have hk := statOffset_bounds k
    have hne : statAddress (.agent a k) ≠ 0x0038 := by
      intro he
      have ha := a.isLt
      have := congrArg BitVec.toNat he
      simp [statAddress, agentAddress] at this
      omega
    have hb := agentBlock_agentAddress a (o := statOffset k) (by omega)
    simp only [statAt, if_neg hne]
    rw [show statAddress (.agent a k) = agentAddress a (statOffset k) from rfl, hb]
    cases k <;> rfl

@[simp] theorem configAt_statAddress (r : StatReg) : configAt (statAddress r) = none := by
  cases r with
  | quarantines => rfl
  | agent a k =>
    revert a k
    intro a k
    cases k <;> revert a <;> decide

end Sys2Proof.Machine
end

