-- ==== Sys2Proof/Laws/Spi.lean ====
section
/-! SUPPORT. The SPI port: a number and its bits say the same, and an edge of its pins changes nothing but the port. -/

namespace Sys2Proof.Machine

@[simp] theorem natToBits_length (n v : Nat) : (natToBits n v).length = n := by
  induction n with
  | zero => rfl
  | succ n ih => simp only [natToBits, List.length_cons, ih]

/-- The bits read so far are the high end of the number. -/
theorem foldl_bits (l : List Bool) (n : Nat) :
    l.foldl (fun n b => 2 * n + b.toNat) n = n * 2 ^ l.length + bitsToNat l := by
  induction l generalizing n with
  | nil => simp [bitsToNat]
  | cons b l ih =>
    simp only [bitsToNat, List.foldl_cons, List.length_cons]
    rw [ih, ih, Nat.pow_succ, Nat.add_mul, Nat.add_mul, Nat.mul_assoc 2 n, Nat.mul_comm 2 (n * _), Nat.mul_assoc]
    omega

theorem bitsToNat_cons (b : Bool) (l : List Bool) : bitsToNat (b :: l) = b.toNat * 2 ^ l.length + bitsToNat l := by
  have h := foldl_bits l b.toNat
  rw [← h]
  simp only [bitsToNat, List.foldl_cons, Nat.mul_zero, Nat.zero_add]

theorem bitsToNat_lt (l : List Bool) : bitsToNat l < 2 ^ l.length := by
  induction l with
  | nil => decide
  | cons b l ih =>
    rw [bitsToNat_cons, List.length_cons, Nat.pow_succ]
    cases b <;> simp only [Bool.toNat_false, Bool.toNat_true] <;> omega

/-- Reading back the `n` low bits of a number. -/
theorem bitsToNat_natToBits (n v : Nat) : bitsToNat (natToBits n v) = v % 2 ^ n := by
  induction n with
  | zero => simp [natToBits, bitsToNat, Nat.mod_one]
  | succ n ih =>
    rw [natToBits, bitsToNat_cons, natToBits_length, ih, Nat.mod_pow_succ, Nat.toNat_testBit, Nat.mul_comm]
    omega

/-- The bits of a number that was read from bits. -/
theorem natToBits_bitsToNat (l : List Bool) : natToBits l.length (bitsToNat l) = l := by
  refine (?_ : ∀ l m : List Bool, bitsToNat l = bitsToNat m → l.length = m.length → l = m) _ _ ?_ (natToBits_length _ _)
  · intro l
    induction l with
    | nil => intro m _ h; exact (List.length_eq_zero_iff.1 h.symm).symm
    | cons b l ih =>
      intro m hv hl
      cases m with
      | nil => cases hl
      | cons c m =>
        have hlen : l.length = m.length := Nat.succ.inj hl
        have h1 := bitsToNat_lt l
        have h2 := bitsToNat_lt m
        rw [bitsToNat_cons, bitsToNat_cons, hlen] at hv
        rw [hlen] at h1
        cases b <;> cases c <;> simp only [Bool.toNat_false, Bool.toNat_true] at hv
        · rw [ih m (by omega) hlen]
        · omega
        · omega
        · rw [ih m (by omega) hlen]
  · rw [bitsToNat_natToBits, Nat.mod_eq_of_lt (bitsToNat_lt l)]

/-- A clock edge changes nothing but the port (R160). -/
theorem State.spiSample_eq (s : State) (b : Bool) : s.spiSample b = s.putSpi (s.spiSample b).spi := by
  unfold State.spiSample
  split
  · split
    · rfl
    · rfl
  · rfl
  · rfl

end Sys2Proof.Machine
end

