-- ==== Sys2Proof/WellFormed.lean ====
section
/-! DEFINITION. The commands whose operands fit their row of the opcode table (log entries 8 and 9). `exec` gives every
command the effect of the frame or the register write that its operands are, well formed or not. -/

namespace Sys2Proof

open Machine in
/-- The operands of a command agree with the event its row names. A frame that fails the frame checks fits each of the
three frame rows (R135). -/
def Instr.wellFormed : Instr → Bool
  | .keepalive _ frame =>
    match readFrame frame with
    | some (.keepalive _) => true
    | some (.ack _ _) => false
    | some (.request _) => false
    | none => true
  | .ack _ frame =>
    match readFrame frame with
    | some (.ack _ _) => true
    | some (.keepalive _) => false
    | some (.request _) => false
    | none => true
  | .request _ frame =>
    match readFrame frame with
    | some (.request _) => true
    | some (.keepalive _) => false
    | some (.ack _ _) => false
    | none => true
  | .badCommand value => (CommandName.ofCode (value.setWidth 8)).isNone
  | .registerWrite address _ => !hasOwnWrite address
  | _ => true

end Sys2Proof
end

