-- ==== Sys2Proof/Tests/Slice0.lean ====
section
/-! SUPPORT. Tests: the well-formedness checks refuse what they should, the CRC and the frames of the spec, one short run
for each family of commands, and for every statement with hypotheses a state that meets them. -/

namespace Sys2Proof.Tests

open Sys2Proof Sys2Proof.Machine Sys2Proof.Expect

set_option maxRecDepth 16000

/-! ### Well-formedness: for each check a term that it refuses, and one that it accepts -/

theorem test_wellFormed_refuses_an_ack_as_keepalive : (Instr.keepalive 0 (ackFrame 3 1)).wellFormed = false := by decide
theorem test_wellFormed_refuses_a_request_as_keepalive :
    (Instr.keepalive 0 (Request.frame { tag := 1, epoch := 1, body := .flush })).wellFormed = false := by decide
theorem test_wellFormed_refuses_a_keepalive_as_ack : (Instr.ack 0 (keepaliveFrame 1)).wellFormed = false := by decide
theorem test_wellFormed_refuses_a_request_as_ack :
    (Instr.ack 0 (Request.frame { tag := 1, epoch := 1, body := .flush })).wellFormed = false := by decide
theorem test_wellFormed_refuses_a_keepalive_as_request :
    (Instr.request 0 (keepaliveFrame 1)).wellFormed = false := by decide
theorem test_wellFormed_refuses_an_ack_as_request : (Instr.request 0 (ackFrame 3 1)).wellFormed = false := by decide
theorem test_wellFormed_refuses_a_known_code_as_bad_command : (Instr.badCommand 0xABCDEF1F).wellFormed = false := by
  decide
theorem test_wellFormed_refuses_an_own_write_as_register_write : (Instr.registerWrite 0x0044 20).wellFormed = false := by
  decide
theorem test_wellFormed_accepts :
    (Instr.keepalive 0 (keepaliveFrame 1)).wellFormed = true ∧ (Instr.ack 7 (ackFrame 3 1)).wellFormed = true ∧
      (Instr.request 3 (Request.frame { tag := 1, epoch := 1, body := .flush })).wellFormed = true ∧
      (Instr.request 3 [1, 2]).wellFormed = true ∧ (Instr.badCommand 0).wellFormed = true ∧
      (Instr.registerWrite 0x0060 4).wellFormed = true ∧ (Instr.registerWrite 0x0014 4).wellFormed = true := by decide

/-! ### Frames and transactions, written out from Chapter 11 -/

/-- The check value that R135 gives for the bytes of "123456789". -/
theorem test_crc_check_value : crc [0x31, 0x32, 0x33, 0x34, 0x35, 0x36, 0x37, 0x38, 0x39] = 0x29B1 := by decide

/-- Tables 11-2 and 11-3: an ACQUIRE of name (2, 0x0102030405060708), EXCLUSIVE, notice and prompt set, deadline 500 ms. -/
theorem test_acquire_frame :
    readFrame (sealFrame
      [0x01, 0x10, 0x12, 0x34, 0x00, 0x05, 0x02, 0x01, 0x06, 0x00, 0x01, 0xF4, 1, 2, 3, 4, 5, 6, 7, 8]) =
        some (.request
          { kind := 0x10, tag := 0x1234, epoch := 5
            body := [0x02, 0x01, 0x06, 0x00, 0x01, 0xF4, 1, 2, 3, 4, 5, 6, 7, 8] }) ∧
      RawRequest.parse
          { kind := 0x10, tag := 0x1234, epoch := 5
            body := [0x02, 0x01, 0x06, 0x00, 0x01, 0xF4, 1, 2, 3, 4, 5, 6, 7, 8] } =
        some { tag := 0x1234, epoch := 5
               body := .acquire 2 .exclusive false true true 500 0x0102030405060708 } := by decide

/-- Table 11-6: GRANTED with handle 0x0123, SHARED, token 9. -/
theorem test_granted_frame :
    Response.frame { kind := 0x10, tag := 0x1234, epoch := 5, result := .granted 0x0123 .shared 9 } =
      sealFrame [0x81, 0x10, 0x12, 0x34, 0x00, 0x05, 0x01, 0x01, 0x23, 0x02, 0x00, 0, 0, 0, 0, 0, 0, 0, 9] := by decide

/-- Tables 11-7 and 11-8: a digest of one REVOKED entry. -/
theorem test_digest_frame :
    Digest.frame { number := 4, epoch := 5, retransmitted := true, overflow := true, entries := [.revoked 0x0123 9] } =
      sealFrame
        [0x82, 0x04, 0x00, 0x05, 0x03, 0x01, 0x04, 0, 0x01, 0x23, 0, 0, 0, 0, 0, 0, 0, 0, 0, 0, 0, 9] := by decide

/-- What the port holds when MCS_N has fallen and these bits have been sampled. -/
def clocked (bits : List Bool) (s : State) : State := bits.foldl (fun t b => t.spiSample b) s.spiSelect

/-- R160: a write of 20 to LAPSE is a CONFIGURATION_WRITE with its 56th bit, and none before it; a read of the low half of
next token captures it, and a read of another register is no command. -/
theorem test_transactions :
    let write : List Bool := spiWriteBits 0x0044 20
    (clocked write State.reset).instrOfTransaction = some (.configurationWrite .lapse 20) ∧
      (clocked (write.take 55) State.reset).instrOfTransaction = none ∧
      (clocked (write ++ write) State.reset).instrOfTransaction = some (.configurationWrite .lapse 20) ∧
      (clocked (spiReadBits 0x0014 []) State.reset).instrOfTransaction = some .ntokLo ∧
      (clocked (spiReadBits 0x0018 []) State.reset).instrOfTransaction = none := by decide

/-- R160, R170: the read of CFGGRACE (300, bits 8, 5, 3 and 2) on MSDO, bit 8 in the 24th data clock, whatever the register
holds later, and high impedance while MCS_N is high or RESET_N is low. -/
theorem test_msdo :
    let sampled (n : Nat) : State := clocked (spiReadBits 0x0040 (List.replicate n false)) State.reset
    (sampled 22).msdo = some false ∧ ((sampled 23).writeConfig .grace 10).msdo = some true ∧
      (sampled 24).msdo = some false ∧ (sampled 29).msdo = some true ∧ (sampled 32).msdo = some false ∧
      (sampled 23).spiRelease.msdo = none ∧ (sampled 23).powerOn.msdo = none := by decide

/-- R170: a write whose first 24 bits come before a pulse on RESET_N is not performed by the 32 after it, and a transaction
that begins with the pin high again is. -/
theorem test_abandoned_transaction :
    let write : List Bool := spiWriteBits 0x0044 20
    let pulsed (s : State) : State := { s.powerOn with resetN := true }
    let torn : State := (write.drop 24).foldl (fun t b => t.spiSample b) (pulsed (clocked (write.take 24) State.reset))
    torn.instrOfTransaction = none ∧ torn.msdo = some false ∧
      (clocked write torn.spiRelease).instrOfTransaction = some (.configurationWrite .lapse 20) ∧
      (clocked write State.reset.powerOn).instrOfTransaction = none := by decide

/-! ### Small states -/

/-- The state that a command answers with. -/
def nextOr (s : State) : Host.Outcome State Fault Refusal → State
  | .next t => t
  | .fault _ => s
  | .refused _ => s

/-- A short run. -/
def run : List Instr → State → State
  | [], s => s
  | c :: cs, s => run cs (nextOr s (exec c s))

/-- A session opened with epoch 1, and its moderator. -/
def opened1 : Session := { Session.reset with state := .active, epoch := 1, graceDue := some 1000 }
def listening : Moderator := { Moderator.reset with accepting := true, epoch := 1 }

/-- A directory that is ONLINE at 1000 ms with every session ACTIVE and every link UP. -/
def world (slots : Table Slot) (pool : Table Membership) : State :=
  { State.reset with
    dir :=
      { Directory.reset with
        state := .online, slots := slots, pool := pool, nextToken := 10
        counts := Vector.replicate 8 { holds := 1, waits := 1, upgrades := 1, nextStamp := 5 } }
    clock := { ms := 1000, us := 1000000, phase := 0 }
    sessions := Vector.replicate 8 opened1
    moderators := Vector.replicate 8 listening
    ports := Vector.replicate 8 { Port.reset with linkUp := true } }

/-- A request of tag 9 with the current epoch. -/
def rq (b : RequestBody) : Request := { tag := 9, epoch := 1, body := b }

/-- Agent 0 has sent a request. -/
def asks (b : RequestBody) (s : State) : State := s.putPort 0 { s.port 0 with inbound := [rq b] }

/-- A membership on the record of slot 5. -/
def mship (a : AgentId) (role : Role) (mode : Mode) (token : Token) : Membership :=
  { agent := a, handle := 5, role := role, mode := mode, token := token, tag := 3, stamp := 1, deadline := none
    upgradePending := false, notice := true, noticed := false, prompt := false, checkOk := true }

/-- The record (1, 7). -/
def rec7 (mode : Mode) (holders waiters : List Nat) : Record :=
  { ns := 1, key := 7, mode := mode, holders := holders, waiters := waiters, upgrade := none, checkOk := true }

/-- Slot 5 holds the record. -/
def five (r : Record) : Table Slot := [(5, .live r)]

/-- Agent 0 holds the record EXCLUSIVE with token 3 and agent 1 waits for it. -/
def held : State :=
  world (five (rec7 .exclusive [0] [1])) [(0, mship 0 .hold .exclusive 3), (1, mship 1 .wait .shared 0)]

/-- Agents 0 and 1 hold the record SHARED and agent 2 waits for it. -/
def sharedRec : State :=
  world (five (rec7 .shared [0, 1] [2]))
    [(0, mship 0 .hold .shared 3), (1, mship 1 .hold .shared 4), (2, mship 2 .wait .exclusive 0)]

/-- Agent 0 alone holds the record SHARED. -/
def alone : State := world (five (rec7 .shared [0] [])) [(0, mship 0 .hold .shared 3)]

/-- Slot 5 is QUARANTINED. -/
def broken (cleaned : Bool) : State :=
  world [(5, .quarantined cleaned (rec7 .shared [0] []))] [(0, mship 0 .hold .shared 3)]

/-- Change the session state of agent 0. -/
def setSession (st : SessionState) (s : State) : State := s.putSession 0 { s.session 0 with state := st }

/-- Change the directory state. -/
def setDir (d : DirectoryState) (s : State) : State := { s with dir := { s.dir with state := d } }

/-- Change next token. -/
def setToken (t : Token) (s : State) : State := { s with dir := { s.dir with nextToken := t } }

/-- Change the counts of agent 0. -/
def setCounts (c : Counts) (s : State) : State := s.putCounts 0 c

/-- A table with `n` entries from 0 on. -/
def rows {α : Type} (x : α) (n : Nat) : Table α := (List.range n).map (fun i => (i, x))

theorem get_rows {α : Type} (x : α) (n j : Nat) : Table.get (rows x n) j = if j < n then some x else none := by
  have key : ∀ (l : List Nat), Table.get (l.map (fun i => (i, x))) j = if j ∈ l then some x else none := by
    intro l
    induction l with
    | nil => simp
    | cons k l ih =>
      simp only [List.map_cons, Table.get_cons, ih, List.mem_cons]
      by_cases hk : k = j
      · simp [hk]
      · have hj : ¬ j = k := fun h => hk h.symm
        simp [hk, hj]
  rw [rows, key]
  simp

theorem full_rows {α : Type} (x : α) (n : Nat) : Full (rows x n) n := by
  intro j hj
  simp [get_rows, hj]

theorem lowestFree_rows {α : Type} (x : α) {n capacity : Nat} (h : n < capacity) :
    LowestFree (rows x n) capacity n :=
  ⟨h, by simp [get_rows], fun j hj => by simp [get_rows, hj]⟩

theorem lowestFree_nil {α : Type} {capacity : Nat} (h : 0 < capacity) : LowestFree ([] : Table α) capacity 0 :=
  ⟨h, rfl, fun _ hj => absurd hj (by omega)⟩

/-! ### One short run for each family -/

/-- Enable the directory and open agent 0's session (R16, R79, R80): the OPEN request arrives, is taken and is answered
OPENED with epoch 1. -/
def openRun : State :=
  run [.enableDirectory 0, .linkUp 0, .request 0 (Request.frame { tag := 1, epoch := 0, body := .openSession }),
    .openSession 0] State.reset

theorem test_open_run :
    (openRun.session 0).state = .active ∧ (openRun.session 0).epoch = 1 ∧
      (openRun.session 0).graceDue = some 301 ∧
      (openRun.port 0).outbound = [{ kind := 1, tag := 1, epoch := 0, result := .opened 1 }] := by decide

/-- An ACQUIRE of a free name takes slot 0 with token 1, and the digest-less response is sent. -/
theorem test_acquire_run :
    let s := run
      [.request 0 (Request.frame { tag := 2, epoch := 1, body := .acquire 1 .exclusive false false false 0 7 }),
        .acquire 0, .transmitFrame 0, .frameEnd 0, .transmitFrame 0] openRun
    s.slot 0 = some (.live (rec7 .exclusive [0] [])) ∧ (s.member 0).map Membership.token = some 1 ∧
      s.dir.nextToken = 2 ∧ (s.counts 0).holds = 1 ∧ s.readRegister 0x0244 = 1 ∧
      (s.port 0).transmitting =
        some (Response.frame { kind := 0x10, tag := 2, epoch := 1, result := .granted 0 .exclusive 1 }) := by decide

/-- RELEASE passes the record to its waiter with the next token, and tells it (R38, R46, R48). -/
theorem test_release_grants_the_waiter :
    let s := run [.release 0] (asks (.release 5 3) held)
    s.slot 5 = some (.live (rec7 .shared [1] [])) ∧ (s.member 1).map Membership.token = some 10 ∧
      s.member 0 = none ∧ (s.moderator 1).pending = [.granted 5 .shared 10 3 false false] ∧
      (s.port 0).outbound = [{ kind := 0x11, tag := 9, epoch := 1, result := .released 5 }] := by decide

/-- UPGRADE beside another holder is set pending; CANCEL clears it (R41, R42). -/
theorem test_upgrade_and_cancel :
    let s := run [.upgrade 0] (asks (.upgrade 5 3 false 100) sharedRec)
    (s.record 5).bind Record.upgrade = some 0 ∧
      s.deadlines.list = [{ index := 0, agent := 0, stamp := 1, kind := .upgrade, due := 1101 }] ∧
      (s.moderator 1).pending = [.contended 5 4 .exclusive] ∧
      ((run [.cancel 0] (asks (.cancel 5) s)).record 5).map Record.upgrade = some none := by decide

/-- DOWNGRADE keeps the token and lets the SHARED waiter in (R39). -/
theorem test_downgrade :
    let s := run [.downgrade 0] (asks (.downgrade 5 3) held)
    s.slot 5 = some (.live (rec7 .shared [0, 1] [])) ∧ (s.member 0).map Membership.token = some 3 := by decide

/-- LOOKUP and LIST (R59, R60). -/
theorem test_queries :
    (((run [.lookup 0] (asks (.lookup 1 7) sharedRec)).port 0).outbound.map Response.result =
        [.found 5 .shared [(0, 3), (1, 4)] [(2, .exclusive)] none]) ∧
      (((run [.list 0] (asks (.list 0) alone)).port 0).outbound.map Response.result =
        [.listed
          [{ stamp := 1, handle := 5, ns := 1, key := 7, quarantined := false, role := .hold, mode := .shared
             token := 3, tag := 3, upgradePending := false, deadline := false }] false]) := by decide

/-- A wait's deadline falls due, joins the expiry queue and ends the wait (R69 to R71). -/
theorem test_wait_expires :
    let waiting : State :=
      { world (five (rec7 .exclusive [0] [1]))
          [(0, mship 0 .hold .exclusive 3), (1, { mship 1 .wait .shared 0 with deadline := some 1000 })] with
        deadlines :=
          { list := [{ index := 1, agent := 1, stamp := 1, kind := .wait, due := 1000 }], expiry := [] } }
    let s := run [.deadlineFallsDue, .expireWait] waiting
    s.member 1 = none ∧ (s.moderator 1).pending = [.waitExpired 5 3 false] ∧
      s.slot 5 = some (.live (rec7 .exclusive [0] [])) := by decide

/-- CLOSE retires the session; its teardown frees the hold, completes, and answers CLOSED (R90, R93, R100). -/
theorem test_close_and_teardown :
    let s := run [.close 0, .teardownStep, .teardownStep] (asks .close alone)
    (s.session 0).state = .closed ∧ s.dir.slots = [] ∧ s.dir.pool = [] ∧ s.sweep = [] ∧
      (s.port 0).outbound = [{ kind := 3, tag := 9, epoch := 1, result := .closed 1 }] := by decide

/-- A failed record is quarantined; its cleanup tells the holder and marks the slot; CLEAR_QUARANTINE frees it (R106, R107,
R151, R156). -/
theorem test_quarantine_and_cleanup :
    let s := run [.lookup 0, .cleanupStep, .cleanupStep, .registerWrite 0x0060 5,
      .arbiterCommandIssue .clearQuarantine 0, .clearQuarantine] (asks (.lookup 1 7) { alone with upsets := [.slot 5] })
    s.dir.slots = [] ∧ s.dir.pool = [] ∧ s.mgmt.faults = 1 ∧ s.mgmt.quarantines = 1 ∧
      s.mgmt.result = { code := 0x12, outcome := .done, reason := none, value := 0 } ∧
      (s.moderator 0).pending = [.lostHold 5 3] := by decide

/-- The grace timer, a frame from the agent, RESUME and the lapse timer (R81, R84, R85, R89). -/
theorem test_timers_and_resume :
    let s := run [.graceTimerExpiry 0] (world [] [])
    (s.session 0).state = .suspect ∧ (s.session 0).lapseDue = some 2501 ∧ (s.moderator 0).state = .stalled ∧
      ((run [.resume 0] (asks .resume s)).session 0).state = .active ∧
      ((run [.lapseTimerExpiry 0] { s with clock := { ms := 2501, us := 0, phase := 0 } }).session 0).state =
        .retiring ∧
      ((run [.keepalive 0 (keepaliveFrame 1)] (world [] [])).session 0).graceDue = some 1301 := by decide

/-- FLUSH emits what waits; the hold timer would too; a resend and the ACK follow (R117 to R123). -/
theorem test_digest_delivery :
    let s := ((world [] []).notify 0 (.revoked 5 3))
    let e := run [.flush 0] (asks .flush s)
    (s.moderator 0).holdDue = some 1000201 ∧ (e.moderator 0).state = .outstanding ∧
      (e.port 0).digestPlace.map Digest.entries = some [.revoked 5 3] ∧
      (((run [.retransmitTimerExpiry 0] { e with clock := { ms := 1021, us := 0, phase := 0 } }).moderator
        0).retransmitCount = 1) ∧
      ((run [.ack 0 (ackFrame 0 1)] e).moderator 0).state = .empty ∧
      ((run [.holdTimerExpiry 0] { s with clock := { ms := 1000, us := 1000201, phase := 0 } }).moderator 0).state =
        .outstanding := by decide

/-- Management commands (R26, R51, R63, R91, R163, R165, R166, R172). -/
theorem test_management :
    ((run [.registerWrite 0x0060 20, .loadTokenFloor 0] State.reset).dir.nextToken = 20) ∧
      ((run [.registerWrite 0x0060 5, .arbiterCommandIssue .breakRecord 0, .lostCommandWrite 1, .breakRecord]
          held).mgmt.readCmdres = 0x01001010) ∧
      ((run [.registerWrite 0x0060 5, .arbiterCommandIssue .inspectRecord 0, .inspectRecord]
          held).readRegister 0x0080 = 0x00050003) ∧
      ((run [.evictAgent 0] held).session 0).state = .retiring ∧
      (run [.configurationWrite .grace 9, .badCommand 0, .faultEnableWrite 8] held).alertLow = true ∧
      (run [.configurationWrite .grace 9, .faultSummaryWrite 8] held).mgmt.faults = 0 ∧
      (run [.arbiterCommandIssue .resetDirectory 0, .resetDirectory] held).dir.state = .offline ∧
      ((run [.ntokLo] held).readRegister 0x0018 = 0) := by decide

/-- The link and the pin (R15, R134). -/
theorem test_link_and_reset :
    ((run [.linkDown 0] (asks .flush held)).port 0).inbound = [] ∧
      ((run [.linkDown 0] held).session 0).suspectCause = some .linkLost ∧
      (run [.powerOnReset, .linkUp 0, .resetNReturnsHigh] held) = State.reset ∧
      (run [.statisticWrite .quarantines 0] held).mgmt.quarantines = 0 := by decide

/-! ### The hypotheses of the statements are met -/

theorem witness_StepRunsTheFrontCommand : ({ State.reset with pending := [.ntokLo] } : State).pending = .ntokLo :: [] := rfl

/-- The state after reset, whose clock shows 4 ms and `p` microseconds more. -/
def idling (p : Nat) : State := { State.reset with clock := { ms := 4, us := 4, phase := p } }

theorem idling_has_nothing_due (p : Nat) : ¬ ExpiryDue (idling p) := by
  have hs (a : AgentId) : (idling p).session a = Session.reset := Per.get_replicate Session.reset a
  have hm (a : AgentId) : (idling p).moderator a = Moderator.reset := Per.get_replicate Moderator.reset a
  rintro (⟨e, he, _⟩ | ⟨a, h⟩)
  · cases he
  · rw [hs, hm] at h
    rcases h with ⟨h, _⟩ | ⟨h, _⟩ | ⟨h, _⟩ | ⟨h, _⟩ <;> cases h

/-- Every case of an empty queue: the phases 998 and 999, RESET_N low, a deadline that is due and a timer that is due. -/
theorem witness_EmptyQueueLetsTimePass :
    let e : Deadline := { index := 1, agent := 1, stamp := 1, kind := .wait, due := 0 }
    ((idling 998).pending = [] ∧ (idling 998).resetN = true ∧ ¬ ExpiryDue (idling 998)) ∧
      ((idling 999).resetN = true ∧ ¬ ExpiryDue (idling 999) ∧ ¬ (idling 999).clock.phase < 999) ∧
      ({ State.reset with resetN := false } : State).resetN = false ∧
      ExpiryDue { State.reset with deadlines := { list := [e], expiry := [] } } ∧
      (ExpiryDue (world [] []) ∧ (world [] []).pending = []) :=
  ⟨⟨rfl, rfl, idling_has_nothing_due 998⟩, ⟨rfl, idling_has_nothing_due 999, by decide⟩, rfl,
    Or.inl ⟨_, rfl, by unfold Reached; decide⟩,
    Or.inr ⟨0, Or.inl ⟨by decide, 1000, by decide, by unfold Reached; decide⟩⟩, rfl⟩

theorem witness_NothingHappensWhileResetIsLow : State.reset.powerOn.resetN = false := rfl

/-- A transaction in progress as RESET_N falls, and one that begins while the pin is low. -/
theorem witness_PowerOnResetHoldsUntilResetReturnsHigh :
    let s : State := clocked (spiReadBits 0x0044 []) State.reset
    (s.resetN = true ∧ s.spi ≠ .released ∧ s.powerOn.spi = .abandoned) ∧
      (State.reset.spi = .released ∧ State.reset.powerOn.spi = .released) ∧
      (s.powerOn.spiSelect.resetN = false ∧ s.powerOn.spiSelect.powerOn.spi = .transaction [] 0) ∧
      Instr.linkUp 0 ≠ .resetNReturnsHigh := by decide

/-- A queue with 15 places taken behind it, and one whose last place is reserved. -/
theorem witness_TurnGoesToTheFirstEligible :
    let w (n : Nat) (r : Bool) : State :=
      let p : Port := { held.port 0 with inbound := [rq .flush], reserved := r }
      held.putPort 0 { p with outbound := List.replicate n { kind := 4, tag := 1, epoch := 1, result := .flushed } }
    (asks .flush held).arbiter.operation = none ∧ (w 15 false).eligible (.agent 0) = true ∧
      (w 15 true).eligible (.agent 0) = false ∧ (w 16 false).eligible (.agent 0) = false := by decide

/-- What keeps a command from its turn: an operation in progress, another head or requester, nothing due, and a sweep job
while the directory is HALTED. -/
theorem witness_commands_out_of_turn :
    let s : State := asks .flush held
    let halted : State := setDir .halted { held with sweep := [.teardown 0] }
    let working : State := { s with arbiter := { s.arbiter with operation := some (.agent 1) } }
    (working.arbiter.operation ≠ none ∧ working.nextTurn = none) ∧
      (s.nextTurn = some (.agent 0) ∧ (s.port 0).inbound.head?.map (·.body.kind) = some .flush) ∧
      held.nextTurn = none ∧ halted.nextTurn = none ∧
      { held with sweep := [.cleanup 5] }.nextTurn = some .sweep ∧
      ({ held with sweep := [.cleanup 5] } : State).sweep.head? ≠ some (.teardown 0) ∧ s.mgmt.busy = none := by decide

/-- Agent 0's RELEASE at its turn. -/
def releasing (st : SessionState) (d : DirectoryState) : State := setDir d (setSession st (asks (.release 5 3) held))

theorem witness_DirectoryRequestIsRefusedAtTake (st : SessionState) (d : DirectoryState) :
    AgentTurn (releasing st d) 0 (rq (.release 5 3)) [] ∧ isDirectoryKind (rq (.release 5 3)).body.kind = true ∧
      ((releasing st d).session 0).state = st ∧ (releasing st d).dir.state = d := by
  cases st <;> cases d <;> unfold AgentTurn <;> decide

/-- Agent 0 asks for the name (1, 7). -/
def acquiring (mode : Mode) (tryNow : Bool) (s : State) : State := asks (.acquire 1 mode tryNow false false 100 7) s

theorem served_acquiring (mode : Mode) (tryNow : Bool) :
    Served (acquiring mode tryNow (world [] [])) 0 (rq (.acquire 1 mode tryNow false false 100 7)) [] ∧
      (taken (acquiring mode tryNow (world [] [])) 0 (rq (.acquire 1 mode tryNow false false 100 7)) []).findName 1 7 =
        none := by
  unfold Served AgentTurn
  cases mode <;> cases tryNow <;> decide

/-- A membership quota that is just reached, one that is not, and a next stamp of 0. -/
theorem witness_quotas :
    MembershipQuotaApplies (setCounts { holds := 1000, waits := 24, upgrades := 0, nextStamp := 5 } held) 0 ∧
      ¬ MembershipQuotaApplies (setCounts { holds := 1000, waits := 23, upgrades := 0, nextStamp := 5 } held) 0 ∧
      MembershipQuotaApplies (setCounts { holds := 0, waits := 0, upgrades := 0, nextStamp := 0 } held) 0 ∧
      WaitQuotaApplies (setCounts { holds := 0, waits := 60, upgrades := 4, nextStamp := 5 } held) 0 ∧
      ¬ WaitQuotaApplies (setCounts { holds := 0, waits := 60, upgrades := 3, nextStamp := 5 } held) 0 := by
  unfold MembershipQuotaApplies WaitQuotaApplies
  decide

/-- Slots of which the last, or none, is FREE, and a pool of which the last entry, or none, is free. -/
def fullSlots (n : Nat) : Table Slot := rows (.quarantined true (rec7 .shared [] [])) n
def fullPool (n : Nat) : Table Membership := rows (mship 3 .hold .shared 3) n

theorem findName_fullSlots (n : Nat) (pool : Table Membership) : (world (fullSlots n) pool).findName 1 7 = none := by
  simp only [State.findName, world, fullSlots, rows, List.findSome?_eq_none_iff, List.mem_map]
  rintro e ⟨i, _, rfl⟩
  rfl

/-- Agent 0 asks for a name that no slot has, in a directory with `n` slots and `k` entries taken. -/
def crowded (n k : Nat) : State := acquiring .shared false (world (fullSlots n) (fullPool k))

theorem witness_AcquireOnAFreeNameCreatesTheRecord (n k : Nat) :
    Served (crowded n k) 0 (rq (.acquire 1 .shared false false false 100 7)) [] ∧
      (taken (crowded n k) 0 (rq (.acquire 1 .shared false false false 100 7)) []).findName 1 7 = none ∧
      ¬ MembershipQuotaApplies (crowded n k) 0 ∧ (crowded n k).dir.nextToken ≠ 0 ∧
      Full (crowded 4096 k).dir.slots 4096 ∧ LowestFree (crowded 4095 k).dir.slots 4096 4095 ∧
      Full (crowded n 8192).dir.pool 8192 ∧ LowestFree (crowded n 8191).dir.pool 8192 8191 ∧
      (setToken 0 (crowded n k)).dir.nextToken = 0 := by
  refine ⟨?_, findName_fullSlots n (fullPool k), ?_, ?_, full_rows _ _, lowestFree_rows _ (by decide),
    full_rows _ _, lowestFree_rows _ (by decide), rfl⟩
  · exact ⟨⟨rfl, rfl, rfl⟩, rfl, rfl⟩
  · change ¬ ((1024 : Word).toNat ≤ 1 + 1 ∨ (5 : Stamp) = 0)
    decide
  · change (10 : Token) ≠ 0
    decide

/-- ALREADY_HELD, ALREADY_WAITING, a compatible request, and a try request that is not compatible. -/
theorem witness_AcquireOnALiveRecordIsAnsweredAtOnce :
    let q : Request := rq (.acquire 1 .shared true false false 100 7)
    let u (s : State) : State := taken (acquiring .shared true s) 0 q []
    let waits : State := world (five (rec7 .exclusive [1] [0])) [(0, mship 0 .wait .shared 0), (1, mship 1 .hold .exclusive 3)]
    let other : State := world (five (rec7 .shared [1] [])) [(1, mship 1 .hold .shared 3)]
    let excl : State := world (five (rec7 .exclusive [1] [])) [(1, mship 1 .hold .exclusive 3)]
    (Served (acquiring .shared true held) 0 q [] ∧
      (u held).findName 1 7 = some (5, rec7 .exclusive [0] [1]) ∧ (u held).record 5 = some (rec7 .exclusive [0] [1]) ∧
      (u held).verify (rec7 .exclusive [0] [1]) = .sound ∧
      (u held).memberOf 0 [0] = some (0, mship 0 .hold .exclusive 3)) ∧
    (Served (acquiring .shared true waits) 0 q [] ∧ (u waits).findName 1 7 = some (5, rec7 .exclusive [1] [0]) ∧
      (u waits).verify (rec7 .exclusive [1] [0]) = .sound ∧ (u waits).memberOf 0 [1] = none ∧
      (u waits).memberOf 0 [0] = some (0, mship 0 .wait .shared 0)) ∧
    (Served (acquiring .shared true other) 0 q [] ∧ (u other).findName 1 7 = some (5, rec7 .shared [1] []) ∧
      (u other).verify (rec7 .shared [1] []) = .sound ∧ (u other).memberOf 0 [1] = none ∧
      ¬ MembershipQuotaApplies (acquiring .shared true other) 0 ∧
      (acquiring .shared true other).dir.nextToken ≠ 0) ∧
    (Served (acquiring .shared true excl) 0 q [] ∧ (u excl).findName 1 7 = some (5, rec7 .exclusive [1] []) ∧
      (u excl).verify (rec7 .exclusive [1] []) = .sound ∧ (u excl).memberOf 0 [1] = none ∧
      (rec7 .exclusive [1] []).mode ≠ .shared) := by
  unfold Served AgentTurn MembershipQuotaApplies
  decide

/-- A wait behind a holder, behind six waiters without a holder, and refused at seven. -/
theorem witness_AcquireIsAdmittedAsAWait :
    let q : Request := rq (.acquire 1 .exclusive false false false 100 7)
    let u (s : State) : State := taken (acquiring .exclusive false s) 0 q []
    let waiter (i : Nat) (a : AgentId) : Nat × Membership := (i, mship a .wait .exclusive 0)
    let six : State := world (five (rec7 .shared [] [1, 2, 3, 4, 5, 6]))
      [waiter 1 1, waiter 2 2, waiter 3 3, waiter 4 4, waiter 5 5, waiter 6 6]
    let seven : State := world (five (rec7 .shared [] [1, 2, 3, 4, 5, 6, 7]))
      [waiter 1 1, waiter 2 2, waiter 3 3, waiter 4 4, waiter 5 5, waiter 6 6, waiter 7 7]
    let other : State := world (five (rec7 .shared [1] [])) [(1, mship 1 .hold .shared 3)]
    (Served (acquiring .exclusive false other) 0 q [] ∧ (u other).findName 1 7 = some (5, rec7 .shared [1] []) ∧
      (u other).record 5 = some (rec7 .shared [1] []) ∧ (u other).verify (rec7 .shared [1] []) = .sound ∧
      (u other).memberOf 0 [1] = none ∧ ¬ MembershipQuotaApplies (acquiring .exclusive false other) 0 ∧
      ¬ WaitQuotaApplies (acquiring .exclusive false other) 0) ∧
    ((u six).verify (rec7 .shared [] [1, 2, 3, 4, 5, 6]) = .sound ∧
      (u six).findName 1 7 = some (5, rec7 .shared [] [1, 2, 3, 4, 5, 6]) ∧
      (u six).memberOf 0 [1, 2, 3, 4, 5, 6] = none) ∧
    ((u seven).verify (rec7 .shared [] [1, 2, 3, 4, 5, 6, 7]) = .sound ∧
      (u seven).findName 1 7 = some (5, rec7 .shared [] [1, 2, 3, 4, 5, 6, 7]) ∧
      (u seven).memberOf 0 [1, 2, 3, 4, 5, 6, 7] = none) := by
  unfold Served AgentTurn MembershipQuotaApplies WaitQuotaApplies
  decide

theorem witness_lowest_pool_entry : LowestFree held.dir.pool 8192 2 ∧ LowestFree (world [] []).dir.pool 8192 0 := by
  refine ⟨⟨by decide, rfl, ?_⟩, lowestFree_nil (by decide)⟩
  intro j hj
  have : j = 0 ∨ j = 1 := by omega
  rcases this with rfl | rfl <;> decide

/-- A quarantined slot, a FREE one, no membership on the record, and a token that differs. -/
theorem witness_HoldIsValidatedByHandleAndToken :
    let b : RequestBody := .downgrade 5 4
    let u (s : State) : State := taken (asks b s) 0 (rq b) []
    let other : State := world (five (rec7 .shared [1] [])) [(1, mship 1 .hold .shared 3)]
    Served (asks b held) 0 (rq b) [] ∧ holdNamed (rq b).body = some (5, 4) ∧
      (u (broken false)).slot 5 = some (.quarantined false (rec7 .shared [0] [])) ∧ (u (world [] [])).slot 5 = none ∧
      ((u other).slot 5 = some (.live (rec7 .shared [1] [])) ∧ (u other).verify (rec7 .shared [1] []) = .sound ∧
        (u other).memberOf 0 [1] = none) ∧
      ((u held).slot 5 = some (.live (rec7 .exclusive [0] [1])) ∧ (u held).verify (rec7 .exclusive [0] [1]) = .sound ∧
        (u held).memberOf 0 [0] = some (0, mship 0 .hold .exclusive 3) ∧
        (mship 0 .hold .exclusive 3).token ≠ 4) := by
  unfold Served AgentTurn
  decide

theorem witness_ReleaseRemovesTheHold :
    let u (s : State) : State := taken (asks (.release 5 3) s) 0 (rq (.release 5 3)) []
    Served (asks (.release 5 3) held) 0 (rq (.release 5 3)) [] ∧
      (u held).slot 5 = some (.live (rec7 .exclusive [0] [1])) ∧ (u held).verify (rec7 .exclusive [0] [1]) = .sound ∧
      (u held).memberOf 0 [0] = some (0, mship 0 .hold .exclusive 3) ∧ (mship 0 .hold .exclusive 3).token = 3 ∧
      ((u alone).slot 5 = some (.live (rec7 .shared [0] [])) ∧ (u alone).verify (rec7 .shared [0] []) = .sound ∧
        (u alone).memberOf 0 [0] = some (0, mship 0 .hold .shared 3) ∧ (rec7 .shared [0] []).waiters = []) := by
  unfold Served AgentTurn
  decide

theorem witness_DowngradeKeepsTheToken :
    let u (s : State) : State := taken (asks (.downgrade 5 3) s) 0 (rq (.downgrade 5 3)) []
    Served (asks (.downgrade 5 3) held) 0 (rq (.downgrade 5 3)) [] ∧
      ((u held).slot 5 = some (.live (rec7 .exclusive [0] [1])) ∧ (u held).verify (rec7 .exclusive [0] [1]) = .sound ∧
        (u held).memberOf 0 [0] = some (0, mship 0 .hold .exclusive 3)) ∧
      ((u alone).slot 5 = some (.live (rec7 .shared [0] [])) ∧ (u alone).verify (rec7 .shared [0] []) = .sound ∧
        (u alone).memberOf 0 [0] = some (0, mship 0 .hold .shared 3)) := by
  unfold Served AgentTurn
  decide

/-- An EXCLUSIVE hold; the sole holder; a holder beside another, with no upgrade, its own, or the other's pending. -/
theorem witness_UpgradeIsGrantedOrSetPending :
    let b : RequestBody := .upgrade 5 3 false 100
    let u (s : State) : State := taken (asks b s) 0 (rq b) []
    let pend (i : Nat) : State :=
      { sharedRec with dir :=
        { sharedRec.dir with slots := five { rec7 .shared [0, 1] [2] with upgrade := some i } } }
    Served (asks b held) 0 (rq b) [] ∧
      ((u held).verify (rec7 .exclusive [0] [1]) = .sound ∧
        (u held).memberOf 0 [0] = some (0, mship 0 .hold .exclusive 3)) ∧
      ((u alone).slot 5 = some (.live (rec7 .shared [0] [])) ∧ (u alone).verify (rec7 .shared [0] []) = .sound ∧
        (u alone).memberOf 0 [0] = some (0, mship 0 .hold .shared 3) ∧ (u alone).dir.nextToken ≠ 0 ∧
        (u (setToken 0 alone)).dir.nextToken = 0) ∧
      ((u sharedRec).slot 5 = some (.live (rec7 .shared [0, 1] [2])) ∧
        (u sharedRec).verify (rec7 .shared [0, 1] [2]) = .sound ∧
        (u sharedRec).memberOf 0 [0, 1] = some (0, mship 0 .hold .shared 3)) ∧
      ((u (pend 0)).record 5).bind Record.upgrade = some 0 ∧ ((u (pend 1)).record 5).bind Record.upgrade = some 1 := by
  unfold Served AgentTurn
  decide

/-- Cases 1, 2 and 4 to 7 of R42. -/
theorem witness_CancelWithdrawsTheWaitOrTheUpgrade :
    let b : RequestBody := .cancel 5
    let u (s : State) : State := taken (asks b s) 0 (rq b) []
    let waits : State := world (five (rec7 .exclusive [1] [0])) [(0, mship 0 .wait .shared 0), (1, mship 1 .hold .exclusive 3)]
    let up : Membership := { mship 0 .hold .shared 3 with upgradePending := true }
    let upg : State := world (five { rec7 .shared [0, 1] [] with upgrade := some 0 }) [(0, up), (1, mship 1 .hold .shared 4)]
    let other : State := world (five (rec7 .shared [1] [])) [(1, mship 1 .hold .shared 3)]
    Served (asks b held) 0 (rq b) [] ∧ (u (broken true)).isQuarantined 5 = true ∧ (u (world [] [])).slot 5 = none ∧
      ((u waits).memberOf 0 [0] = some (0, mship 0 .wait .shared 0) ∧
        (u waits).verify (rec7 .exclusive [1] [0]) = .sound) ∧
      ((u upg).memberOf 0 [] = none ∧ (u upg).memberOf 0 [0, 1] = some (0, up)) ∧
      ((u held).memberOf 0 [1] = none ∧ (u held).memberOf 0 [0] = some (0, mship 0 .hold .exclusive 3)) ∧
      ((u other).memberOf 0 [] = none ∧ (u other).memberOf 0 [1] = none) := by
  unfold Served AgentTurn
  decide

/-- A hold without and with a pending upgrade, and a wait, with and without a deadline. -/
theorem witness_RemovalsFreeTheMembership :
    let up : Membership := { mship 0 .hold .shared 3 with upgradePending := true, deadline := some 1100 }
    let w : State :=
      world (five { rec7 .shared [0, 1] [2] with upgrade := some 0 })
        [(0, up), (1, mship 1 .hold .shared 4), (2, mship 2 .wait .exclusive 0)]
    w.record 5 = some { rec7 .shared [0, 1] [2] with upgrade := some 0 } ∧
      w.member 0 = some up ∧ w.member 1 = some (mship 1 .hold .shared 4) ∧
      w.member 2 = some (mship 2 .wait .exclusive 0) := by decide

theorem witness_GrantPassServesTheQueueInOrder :
    let w : State := world (five (rec7 .exclusive [] [1, 2])) [(1, mship 1 .wait .shared 0), (2, mship 2 .wait .shared 0)]
    w.record 5 = some (rec7 .exclusive [] [1, 2]) ∧ (rec7 .exclusive [] [1, 2]).waiters.Nodup ∧
      w.member 1 = some (mship 1 .wait .shared 0) ∧ (w.session 1).state ≠ .retiring ∧ w.dir.nextToken ≠ 0 := by decide

/-- A SHARED record of agent 0 with a RETIRING, a SHARED and an EXCLUSIVE waiter: the pass removes the first and grants the
second alone. -/
def queued : State :=
  let w : State :=
    world (five (rec7 .shared [0] [1, 2, 3]))
      [(0, mship 0 .hold .shared 3), (1, mship 1 .wait .shared 0), (2, mship 2 .wait .shared 0),
        (3, mship 3 .wait .exclusive 0)]
  w.putSession 1 { w.session 1 with state := .retiring }

theorem test_grant_pass_runs :
    (queued.grantPass 5).slot 5 = some (.live (rec7 .shared [0, 2] [3])) ∧ (queued.grantPass 5).member 1 = none ∧
      ((queued.grantPass 5).moderator 2).pending = [.granted 5 .shared 10 3 false false, .contended 5 10 .exclusive] ∧
      setToken 0 queued ≠ (setToken 0 queued).grantPass 5 ∧
      ((setToken 0 queued).grantPass 5).slot 5 = some (.live (rec7 .shared [0] [2, 3])) := by decide

/-- The whole pass: every waiter in use; a pending upgrade of a RETIRING holder, of one of two holders, and of a sole holder
in an exhausted sequence. -/
theorem witness_the_whole_grant_pass :
    let up : Membership := { mship 0 .hold .shared 3 with upgradePending := true }
    let r (holders : List Nat) : Record := { rec7 .shared holders [2] with upgrade := some 0 }
    let w (holders : List Nat) : State :=
      world (five (r holders)) [(0, up), (1, mship 1 .hold .shared 4), (2, mship 2 .wait .shared 0)]
    let retiring : State := (w [0]).putSession 0 { (w [0]).session 0 with state := .retiring }
    (rec7 .shared [0] [1, 2, 3]).waiters.all (fun i => (queued.member i).isSome) = true ∧
      queued.record 5 = some (rec7 .shared [0] [1, 2, 3]) ∧ (rec7 .shared [0] [1, 2, 3]).waiters.Nodup ∧
      retiring.record 5 = some (r [0]) ∧ retiring.member 0 = some up ∧ (retiring.session 0).state = .retiring ∧
      (w [0, 1]).record 5 = some (r [0, 1]) ∧ (w [0, 1]).member 0 = some up ∧ ((w [0, 1]).session 0).state ≠ .retiring ∧
      (r [0, 1]).holders ≠ [0] ∧ (setToken 0 (w [0])).dir.nextToken = 0 ∧
      (setToken 0 (w [0])).member 2 = some (mship 2 .wait .shared 0) := by decide

theorem witness_GrantPassServesThePendingUpgradeFirst :
    let up : Membership := { mship 0 .hold .shared 3 with upgradePending := true, deadline := some 1100 }
    let w : State := world (five { rec7 .shared [0] [2] with upgrade := some 0 }) [(0, up), (2, mship 2 .wait .shared 0)]
    w.record 5 = some { rec7 .shared [0] [2] with upgrade := some 0 } ∧ w.member 0 = some up ∧
      (w.session up.agent).state ≠ .retiring ∧ w.dir.nextToken ≠ 0 := by decide

theorem witness_GrantOfAWaiterAndContentionNotice :
    held.record 5 = some (rec7 .exclusive [0] [1]) ∧ held.member 1 = some (mship 1 .wait .shared 0) ∧
      held.member 0 = some (mship 0 .hold .exclusive 3) ∧ (mship 0 .hold .exclusive 3).notice = true ∧
      (mship 0 .hold .exclusive 3).noticed = false ∧
      (((held.contend 5 .shared 0).member 0).map Membership.noticed = some true) ∧
      alone.record 5 = some (rec7 .shared [0] []) ∧ (rec7 .exclusive [0] [1]).waiters = 1 :: [] := by decide

theorem witness_QueriesReportAndChangeNothing :
    let l : RequestBody := .lookup 1 7
    let u (b : RequestBody) (s : State) : State := taken (asks b s) 0 (rq b) []
    Served (asks l held) 0 (rq l) [] ∧ (u l (world [] [])).findName 1 7 = none ∧
      (u l held).findName 1 7 = some (5, rec7 .exclusive [0] [1]) ∧
      (u l held).verify (rec7 .exclusive [0] [1]) = .sound ∧
      Served (asks (.list 0) held) 0 (rq (.list 0)) [] ∧
      (u (.list 0) held).holdings 0 = [(0, mship 0 .hold .exclusive 3)] ∧
      (u (.list 0) held).slot 5 = some (.live (rec7 .exclusive [0] [1])) := by
  unfold Served AgentTurn
  decide

/-- The second membership of agent 0 fails, or its record does. -/
theorem witness_ListStopsAtTheFirstFailedRead :
    let bad : Membership := { mship 0 .hold .shared 4 with handle := 6, stamp := 2 }
    let r : Record := { rec7 .shared [1] [] with key := 8, checkOk := false }
    let w (m : Membership) : State := world [(5, .live (rec7 .shared [0] [])), (6, .live r)] [(0, mship 0 .hold .shared 3), (1, m)]
    let u (m : Membership) : State := taken (asks (.list 0) (w m)) 0 (rq (.list 0)) []
    Served (asks (.list 0) (w bad)) 0 (rq (.list 0)) [] ∧
      (((u bad).holdings 0).filter (fun e => decide (0 < e.2.stamp))).take 16 =
        [(0, mship 0 .hold .shared 3)] ++ (1, bad) :: [] ∧
      (u bad).slot 5 = some (.live (rec7 .shared [0] [])) ∧ bad.checkOk = true ∧ (u bad).slot 6 = some (.live r) ∧
      (((u { bad with checkOk := false }).holdings 0).filter (fun e => decide (0 < e.2.stamp))).take 16 =
        [(0, mship 0 .hold .shared 3)] ++ (1, { bad with checkOk := false }) :: [] := by
  unfold Served AgentTurn
  decide

theorem witness_the_key_match : TablesCanonical held ∧ NamesOk held ∧ held.findName 1 7 = some (5, rec7 .exclusive [0] [1]) := by
  unfold TablesCanonical NamesOk
  decide

/-- The environment damages the record, or a membership of it, at the take. -/
theorem witness_CheckFailureQuarantinesOrHalts :
    let b : RequestBody := .cancel 5
    let s (d : Upset) : State := asks b { held with upsets := [d] }
    let u (d : Upset) : State := taken (s d) 0 (rq b) []
    let r : Record := rec7 .exclusive [0] [1]
    Served (s (.slot 5)) 0 (rq b) [] ∧ concerned (u (.slot 5)) (rq b) = some (5, { r with checkOk := false }) ∧
      Served (s (.entry 1)) 0 (rq b) [] ∧ concerned (u (.entry 1)) (rq b) = some (5, r) ∧ r.checkOk = true ∧
      1 ∈ r.holders ++ r.waiters ∧
      (u (.entry 1)).member 1 = some { mship 1 .wait .shared 0 with checkOk := false } := by
  unfold Served AgentTurn
  decide

theorem witness_DeadlinesAreRegisteredAndWithdrawn :
    let m : Membership := { mship 1 .wait .shared 0 with deadline := some 1500 }
    let w : State := world (five (rec7 .exclusive [0] [1])) [(0, mship 0 .hold .exclusive 3), (1, m)]
    w.member 1 = some m ∧ m.deadline ≠ none ∧ held.member 1 = some (mship 1 .wait .shared 0) ∧
      (mship 1 .wait .shared 0).deadline = none ∧ (65535 : BitVec 16) ≠ 0 := by decide

/-- An entry that is due now goes, and one that is due in a millisecond stays. -/
theorem witness_DueDeadlinesJoinTheExpiryQueue :
    let e (i : Nat) (d : Time) : Deadline := { index := i, agent := 1, stamp := 1, kind := .wait, due := d }
    let w : State := { held with deadlines := { list := [e 1 1000] ++ [e 2 1001], expiry := [] } }
    w.resetN = true ∧ w.deadlines.list = [e 1 1000] ++ [e 2 1001] ∧ Reached w.clock.ms 1000 ∧ ¬ Reached w.clock.ms 1001 := by
  unfold Reached
  decide

/-- An expire-wait of pool entry 1, on a state `s`. -/
def expiring (kind : DeadlineKind) (s : State) : State :=
  { s with deadlines := { list := [], expiry := [{ index := 1, agent := 1, stamp := 1, kind := kind, due := 1000 }] } }

/-- A free entry; a failed membership; the five stale cases; a wait and an upgrade; a failed record and a failed
membership of it. -/
theorem witness_ExpireWaitEndsOnlyTheSameWait :
    let e (k : DeadlineKind) : Deadline := { index := 1, agent := 1, stamp := 1, kind := k, due := 1000 }
    let m : Membership := mship 1 .wait .shared 0
    let upg : Membership := { mship 1 .hold .shared 4 with upgradePending := true }
    let w (r : Record) (x : Membership) : State := world (five r) [(0, mship 0 .hold .exclusive 3), (1, x)]
    let r : Record := rec7 .exclusive [0] [1]
    ExpiryTurn (expiring .wait held) (e .wait) [] ∧ ExpiryTurn (expiring .upgrade sharedRec) (e .upgrade) [] ∧
      (world [] []).member 1 = none ∧ (w r { m with checkOk := false }).member 1 = some { m with checkOk := false } ∧
      Stale held (e .wait) { m with agent := 2 } ∧ Stale held (e .wait) { m with stamp := 2 } ∧
      Stale held (e .wait) (mship 1 .hold .shared 4) ∧ Stale held (e .upgrade) (mship 1 .hold .shared 4) ∧
      Stale (broken false) (e .wait) m ∧ ¬ Stale held (e .wait) m ∧ ¬ Stale (w r upg) (e .upgrade) upg ∧
      held.verify r = .sound ∧ held.verify { r with checkOk := false } = .recordFault ∧
      (w r { m with checkOk := false }).verify r = .memberFault := by
  refine ⟨⟨rfl, by decide, rfl⟩, ⟨rfl, by decide, rfl⟩, by decide, by decide, Or.inl (by decide),
    Or.inr (Or.inl (by decide)), Or.inr (Or.inr (Or.inl (by decide))), Or.inr (Or.inr (Or.inr (Or.inl (by decide)))),
    Or.inr (Or.inr (Or.inr (Or.inr ⟨false, _, rfl⟩))), ?_, ?_, by decide, by decide, by decide⟩
  · rintro (h | h | h | h | ⟨c, r, h⟩)
    · exact absurd h (by decide)
    · exact absurd h (by decide)
    · exact absurd h (by decide)
    · exact absurd h (by decide)
    · have h' : some (Slot.live (rec7 .exclusive [0] [1])) = some (Slot.quarantined c r) := h
      cases h'
  · rintro (h | h | h | h | ⟨c, r, h⟩)
    · exact absurd h (by decide)
    · exact absurd h (by decide)
    · exact absurd h (by decide)
    · exact absurd h (by decide)
    · have h' : some (Slot.live (rec7 .exclusive [0] [1])) = some (Slot.quarantined c r) := h
      cases h'

/-- A session request of agent 0 in any session state and any directory state. -/
def asking (b : RequestBody) (st : SessionState) (d : DirectoryState) : State := setDir d (setSession st (asks b held))

theorem witness_session_requests (st : SessionState) (d : DirectoryState) :
    AgentTurn (asking .openSession st d) 0 (rq .openSession) [] ∧ AgentTurn (asking .resume st d) 0 (rq .resume) [] ∧
      AgentTurn (asking .close st d) 0 (rq .close) [] ∧ AgentTurn (asking .flush st d) 0 (rq .flush) [] ∧
      ((asking .openSession st d).session 0).state = st ∧ ((asking .resume st d).session 0).state = st ∧
      (asking .openSession st d).dir.state = d ∧ (rq .resume).epoch = ((asking .resume st d).session 0).epoch := by
  cases st <;> cases d <;> unfold AgentTurn <;> decide

/-- OPEN is met in every case by the theorem above, at the last epoch too. -/
theorem witness_OpenOpensAClosedSession :
    let w : State := (asking .openSession .closed .online).putSession 0 { Session.reset with epoch := 65535 }
    AgentTurn w 0 (rq .openSession) [] ∧ (w.session 0).state = .closed ∧ w.dir.state = .online ∧
      ((run [.openSession 0] w).session 0).epoch = 1 := by
  unfold AgentTurn
  decide

theorem witness_SessionRequestIsRefusedAtTake :
    let w : State := (asking .resume .active .online).putSession 0 { opened1 with epoch := 2 }
    AgentTurn w 0 (rq .resume) [] ∧ (w.session 0).state ≠ .closed ∧ (rq .resume).epoch ≠ (w.session 0).epoch := by
  unfold AgentTurn
  decide

/-- A moderator of agent 0 in SUSPECT with a digest in flight, with pending notifications only, and with neither. -/
theorem witness_ResumeReturnsTheSessionToActive :
    let d : Digest := { number := 0, epoch := 1, retransmitted := false, overflow := false, entries := [.revoked 5 3] }
    let w (m : Moderator) : State := (asking .resume .suspect .online).putModerator 0 m
    let flight : Moderator := { listening with state := .stalled, inFlight := some d }
    let some_ : Moderator := { listening with state := .stalled, pending := [.revoked 5 3] }
    AgentTurn (w flight) 0 (rq .resume) [] ∧ ((w flight).session 0).state = .suspect ∧
      ((w flight).moderator 0).inFlight = some d ∧ ((w some_).moderator 0).inFlight = none ∧
      ((w some_).moderator 0).pending ≠ [] ∧ ((w listening).moderator 0).pending = [] ∧
      ((w listening).moderator 0).inFlight = none := by
  unfold AgentTurn
  decide

/-- A lapse timer that is due now; agents 7 and 8 as the argument of EVICT_AGENT. -/
theorem witness_CloseLapseAndEvictionRetireTheSession :
    let w : State := (asking .close .suspect .online).putSession 0 { opened1 with state := .suspect, lapseDue := some 1000 }
    let arg (v : Word) : State := { held with mgmt := { held.mgmt with arg0 := v } }
    AgentTurn (asking .close .active .online) 0 (rq .close) [] ∧ w.resetN = true ∧ (w.session 0).state = .suspect ∧
      (w.session 0).lapseDue = some 1000 ∧ Reached w.clock.ms 1000 ∧ w.mgmt.busy = none ∧
      7 < (arg 8).mgmt.arg0.toNat ∧ (arg 7).mgmt.arg0.toNat = (7 : AgentId).val ∧ ((arg 7).session 7).state = .active := by
  unfold AgentTurn Reached
  decide

theorem witness_QuietAndLinkLossSuspendTheSession :
    held.resetN = true ∧ (held.session 0).state = .active ∧ (held.session 0).graceDue = some 1000 ∧
      Reached held.clock.ms 1000 ∧ ¬ Reached (held.clock.ms - 1) 1000 ∧ (held.port 0).linkUp = true ∧
      (State.reset.port 0).linkUp = false := by
  unfold Reached
  decide

/-- For the four timers: a state that is not the timer's own, and in its own a due time one later than the clock's. -/
theorem witness_timers_that_do_not_expire :
    let c (st : SessionState) : State :=
      held.putSession 0 { opened1 with state := st, graceDue := some 1001, lapseDue := some 1001 }
    let m (st : ModeratorState) : State :=
      held.putModerator 0 { listening with state := st, holdDue := some 1000001, retransmitDue := some 1001 }
    (((c .suspect).session 0).state ≠ .active ∧ ((c .active).session 0).graceDue = some 1001) ∧
      (((c .active).session 0).state ≠ .suspect ∧ ((c .suspect).session 0).lapseDue = some 1001) ∧
      (((m .stalled).moderator 0).state ≠ .collecting ∧ ((m .collecting).moderator 0).holdDue = some 1000001) ∧
      (((m .stalled).moderator 0).state ≠ .outstanding ∧ ((m .outstanding).moderator 0).retransmitDue = some 1001) ∧
      ¬ Reached held.clock.ms 1001 ∧ ¬ Reached held.clock.us 1000001 := by
  unfold Reached
  decide

/-- A sweep turn on `s` with job `j`. -/
def sweeping (j : SweepJob) (s : State) : State := { s with sweep := [j] }

/-- No membership; one on a LIVE slot, as holder and as waiter; one on a QUARANTINED slot; a failed one. -/
theorem witness_TeardownFreesTheLowestStampFirst :
    let w (x : Membership) : State :=
      sweeping (.teardown 1) (world (five (rec7 .exclusive [0] [1])) [(0, mship 0 .hold .exclusive 3), (1, x)])
    let m : Membership := mship 1 .wait .shared 0
    let later : Membership := { mship 0 .hold .shared 5 with handle := 6, stamp := 2 }
    let two : State := sweeping (.teardown 0) (world [] [(0, mship 0 .hold .shared 3), (1, later)])
    SweepTurn (w m) (.teardown 1) [] ∧ (∀ e ∈ (sweeping (.teardown 2) held).dir.pool, e.2.agent ≠ 2) ∧
      ((1, m) ∈ (begun .sweep (w m)).dir.pool ∧ (begun .sweep (w m)).member 1 = some m ∧
        (begun .sweep (w m)).slot m.handle = some (.live (rec7 .exclusive [0] [1])) ∧
        (∀ e ∈ (begun .sweep (w m)).dir.pool, e.2.agent = 1 → e = (1, m) ∨ m.stamp < e.2.stamp) ∧
        (begun .sweep (w m)).verify (rec7 .exclusive [0] [1]) = .sound) ∧
      (begun .sweep (w { m with checkOk := false })).member 1 = some { m with checkOk := false } ∧
      (∀ e ∈ (begun .sweep two).dir.pool, e.2.agent = 0 →
        e = (0, mship 0 .hold .shared 3) ∨ (mship 0 .hold .shared 3).stamp < e.2.stamp) ∧
      (begun .sweep (sweeping (.teardown 0) (broken false))).slot 5 = some (.quarantined false (rec7 .shared [0] [])) := by
  unfold SweepTurn
  decide

theorem witness_CleanupFreesTheLowestIndexFirst :
    let w : State := sweeping (.cleanup 5) (broken false)
    SweepTurn w (.cleanup 5) [] ∧ (begun .sweep w).slot 5 = some (.quarantined false (rec7 .shared [0] [])) ∧
      TablesCanonical w ∧ (0, mship 0 .hold .shared 3) ∈ (begun .sweep w).dir.pool ∧
      (∀ e ∈ (begun .sweep w).dir.pool, e.2.handle = 5 → 0 ≤ e.1) ∧ (w.session 0).state = .active ∧
      ((setSession .retiring w).session 0).state = .retiring ∧
      (∀ e ∈ (sweeping (.cleanup 6) held).dir.pool, e.2.handle ≠ 6) := by
  unfold SweepTurn TablesCanonical
  decide

/-- 63 and 64 places taken, in each moderator state, and a moderator that is not accepting. -/
theorem witness_NotificationIsQueuedDroppedOrLost :
    let d : Digest :=
      { number := 0, epoch := 1, retransmitted := false, overflow := false, entries := List.replicate 16 (.revoked 5 3) }
    let m (st : ModeratorState) (n : Nat) : Moderator :=
      { listening with state := st, pending := List.replicate n (.revoked 5 3) }
    let f (st : ModeratorState) (n : Nat) : Moderator := { m st n with inFlight := some d }
    Moderator.reset.accepting = false ∧ listening.accepting = true ∧ places listening < 64 ∧ listening.state = .empty ∧
      (places (m .collecting 63) < 64 ∧ ¬ places (m .collecting 64) < 64 ∧ (m .collecting 64).accepting = true) ∧
      (places (f .outstanding 47) < 64 ∧ 64 ≤ places (f .outstanding 48)) ∧
      (places (f .stalled 47) < 64 ∧ 64 ≤ places (f .stalled 48)) := by decide

/-- The four cases of the emission condition at their boundaries, and a moderator that meets none. -/
theorem witness_emission_condition :
    let c : ConfigValues := ConfigValues.reset
    let n (k : Nat) : Moderator := { listening with pending := List.replicate k (.contended 5 3 .shared) }
    EmissionDue c (n 4) ∧ ¬ EmissionDue c (n 3) ∧ EmissionDue c { n 1 with pending := [.revoked 5 3, .granted 5 .shared 3 1 false true] } ∧
      EmissionDue c { n 1 with overflow := .unreported } ∧
      EmissionDue { c with countThreshold := 0, holdTime := 0 } (n 1) ∧
      ¬ EmissionDue { c with countThreshold := 0 } (n 16) := by
  unfold EmissionDue
  decide

/-- Timers that are due now; one retry below the limit, and at it; FLUSH in COLLECTING and in another state. -/
theorem witness_ModeratorTimersAndFlushSendDigests :
    let d : Digest := { number := 0, epoch := 1, retransmitted := false, overflow := false, entries := [.revoked 5 3] }
    let w (m : Moderator) : State := (asking .flush .active .online).putModerator 0 m
    let col : Moderator := { listening with state := .collecting, pending := [.revoked 5 3], holdDue := some 1000000 }
    let out (n : Nat) : Moderator :=
      { listening with state := .outstanding, inFlight := some d, retransmitDue := some 1000, retransmitCount := n }
    (w col).resetN = true ∧ ((w col).moderator 0).holdDue = some 1000000 ∧ Reached (w col).clock.us 1000000 ∧
      ((w (out 2)).moderator 0).retransmitDue = some 1000 ∧ Reached (w (out 2)).clock.ms 1000 ∧
      ((w (out 2)).moderator 0).retransmitCount < (w (out 2)).mgmt.config.retransmitLimit.toNat ∧
      (w (out 3)).mgmt.config.retransmitLimit.toNat ≤ ((w (out 3)).moderator 0).retransmitCount ∧
      AgentTurn (w col) 0 (rq .flush) [] ∧ ((w col).moderator 0).state = .collecting ∧
      ((w (out 2)).moderator 0).state ≠ .collecting := by
  unfold AgentTurn Reached
  decide

/-- The five cases of R121, and the three of R122. -/
theorem witness_AckIsJudgedByTheFirstCase :
    let d (n : Byte) : Digest :=
      { number := n, epoch := 1, retransmitted := false, overflow := true, entries := [.revoked 5 3] }
    let m (st : ModeratorState) : Moderator :=
      { listening with state := st, inFlight := some (d 0), overflow := .reported }
    held.resetN = true ∧ (held.port 0).linkUp = true ∧ readFrame (ackFrame 255 1) = some (.ack 255 1) ∧
      readFrame (ackFrame 0 2) = some (.ack 0 2) ∧ readFrame (ackFrame 0 1) = some (.ack 0 1) ∧
      readFrame (ackFrame 1 1) = some (.ack 1 1) ∧
      (State.reset.moderator 0).accepting = false ∧ (held.moderator 0).accepting = true ∧
      (2 : Epoch) ≠ (held.moderator 0).epoch ∧ (255 : Byte) + 1 = (held.moderator 0).number ∧
      ((1 : Byte) + 1 ≠ (m .outstanding).number ∧ (1 : Byte) ≠ (d 0).number) ∧
      ((0 : Byte) + 1 ≠ (m .outstanding).number ∧ (m .outstanding).inFlight = some (d 0) ∧ (0 : Byte) = (d 0).number ∧
        (m .outstanding).pending = [] ∧ (m .stalled).state = .stalled) := by decide

theorem witness_KeepaliveRestartsTheGraceTimer :
    held.resetN = true ∧ (held.port 0).linkUp = true ∧ readFrame (keepaliveFrame 1) = some (.keepalive 1) ∧
      readFrame (keepaliveFrame 2) = some (.keepalive 2) ∧ (held.session 0).state = .active ∧
      (1 : Epoch) = (held.session 0).epoch ∧ (2 : Epoch) ≠ (held.session 0).epoch := by decide

/-- A frame of one byte, a wrong CRC, another type, and lengths beside the right ones. -/
theorem witness_FramesAndBodiesAreChecked :
    readFrame [3] = none ∧ readFrame [3, 0, 0, 1, 0, 0] = none ∧ readFrame (sealFrame [4, 0, 0, 1]) = none ∧
      readFrame (sealFrame [3, 0, 0]) = none ∧ readFrame (sealFrame [2, 0, 0, 1, 0]) = none ∧
      readFrame (sealFrame [1, 4, 0, 1, 0]) = none ∧ (readFrame (sealFrame [1, 4, 0, 1, 0, 1])).isSome = true ∧
      Malformed { kind := 0x20, tag := 1, epoch := 1, body := [16, 0, 0, 0, 0, 0, 0, 0, 0, 7] } ∧
      Malformed { kind := 0x14, tag := 1, epoch := 1, body := [16, 0] } ∧
      RawRequest.parse { kind := 0x20, tag := 1, epoch := 1, body := [15, 0, 0, 0, 0, 0, 0, 0, 0, 7] } =
        some { tag := 1, epoch := 1, body := .lookup 15 7 } ∧
      RawRequest.parse { kind := 0x14, tag := 1, epoch := 1, body := [15, 255] } =
        some { tag := 1, epoch := 1, body := .cancel 4095 } ∧
      (State.reset.port 0).linkUp = false := by
  refine ⟨by decide, by decide, by decide, by decide, by decide, by decide, by decide, ?_, ?_, by decide, by decide, by decide⟩
  · exact Or.inr (Or.inl ⟨Or.inr rfl, 16, rfl, by decide⟩)
  · exact Or.inr (Or.inr (Or.inr ⟨Or.inr (Or.inr (Or.inr rfl)), 16, rfl, 0, rfl, by decide⟩))

/-- A FLUSH of tag 9 as it arrives. -/
def flushing : RawRequest := { kind := 4, tag := 9, epoch := 1, body := [] }

/-- 15 and 16 places of the outbound list taken; a cached outcome; the same tag in the queue. -/
theorem witness_RequestIsReplayedOrDiscardedAsADuplicate :
    let e : CacheEntry := { tag := 9, kind := .flush, target := .none, result := .flushed }
    let x : Response := { kind := 4, tag := 1, epoch := 1, result := .flushed }
    let w (n : Nat) : State := held.putPort 0 { held.port 0 with replay := [e], outbound := List.replicate n x }
    (w 15).resetN = true ∧ ((w 15).port 0).linkUp = true ∧
      readFrame (Request.frame (rq .flush)) = some (.request flushing) ∧
      (((w 15).port 0).replay.map CacheEntry.tag).Nodup ∧ Replays (w 15) 0 flushing e ∧ Room (w 15) 0 ∧
      ¬ Room (w 16) 0 ∧ Duplicate (asks .flush held) 0 flushing := by
  refine ⟨by decide, by decide, by decide, by decide, ⟨by decide, ?_, by decide, by decide, by decide, by decide⟩, ?_, ?_,
    Or.inl ⟨rq .flush, ?_, rfl⟩⟩
  · decide
  · unfold Room; decide
  · unfold Room; decide
  · decide

/-- A cache of 15 and of 16 entries, with the tag and without it. -/
theorem witness_cache_entries :
    let e (t : Tag) : CacheEntry := { tag := t, kind := .flush, target := .none, result := .flushed }
    let cache (n : Nat) : List CacheEntry := (List.range n).map (fun k => e (BitVec.ofNat 16 k))
    (cache 16).length ≤ 16 ∧ (cache 15).length < 16 ∧ (cache 16).any (fun x => decide (x.tag = (e 15).tag)) = true ∧
      (cache 16).all (fun x => decide (x.tag ≠ (e 16).tag)) = true ∧
      (enterCache (e 15) (cache 16)).length = 16 ∧ (enterCache (e 16) (cache 16)).head? = some (e 1) := by decide

/-- Refused by the judgment; malformed; room for a 16th request and not for a 17th. -/
theorem witness_RequestIsRefusedOrJoinsTheInboundQueue :
    let bad : RawRequest := { kind := 4, tag := 9, epoch := 1, body := [0] }
    let w (n : Nat) : State :=
      held.putPort 0 { held.port 0 with inbound := List.replicate n { tag := 8, epoch := 1, body := .flush } }
    (∀ e, ¬ Replays (w 15) 0 flushing e) ∧ ¬ Duplicate (w 15) 0 flushing ∧
      judged (State.reset.session 0) (some .flush) 1 = some .noSession ∧
      judged ((w 15).session 0) (ReqKind.ofCode flushing.kind) flushing.epoch = none ∧ Malformed bad ∧
      flushing.parse = some (rq .flush) ∧ ((w 15).port 0).inbound.length < 16 ∧ 16 ≤ ((w 16).port 0).inbound.length := by
  refine ⟨?_, ?_, by decide, by decide, ?_, by decide, by decide, by decide⟩
  · rintro e ⟨_, h, _⟩
    have h' : e ∈ ([] : List CacheEntry) := h
    cases h'
  · rintro (⟨q, h, ht⟩ | h)
    · have h' : q ∈ List.replicate 15 ({ tag := 8, epoch := 1, body := .flush } : Request) := h
      rw [List.eq_of_mem_replicate h'] at ht
      exact absurd ht (by decide)
    · exact absurd h (by decide)
  · left
    decide

theorem witness_TransmitterSendsTheDigestFirst :
    let d : Digest := { number := 0, epoch := 1, retransmitted := false, overflow := false, entries := [.revoked 5 3] }
    let x : Response := { kind := 4, tag := 1, epoch := 1, result := .flushed }
    let w (p : Option Digest) (o : List Response) : State := held.putPort 0 { held.port 0 with digestPlace := p, outbound := o }
    (w (some d) [x]).resetN = true ∧ ((w (some d) [x]).port 0).linkUp = true ∧
      ((w (some d) [x]).port 0).transmitting = none ∧ ((w (some d) [x]).port 0).digestPlace = some d ∧
      ((w none [x]).port 0).outbound = x :: [] ∧ ((w none []).port 0).outbound = [] ∧
      ((run [.transmitFrame 0] (w (some d) [x])).port 0).transmitting ≠ none := by decide

/-- A floor equal to next token and one below it, in every directory state, and an exhausted sequence. -/
theorem witness_DirectCommandsActOnTheDirectory (d : DirectoryState) :
    let w (v : Word) : State := setDir d { held with mgmt := { held.mgmt with arg0 := v } }
    (w 10).resetN = true ∧ (w 10).mgmt.busy = none ∧ (w 10).dir.state = d ∧
      (w 10).dir.nextToken ≤ (w 10).mgmt.arg1 ++ (w 10).mgmt.arg0 ∧
      (w 9).mgmt.arg1 ++ (w 9).mgmt.arg0 < (w 9).dir.nextToken ∧ (setToken 0 (w 10)).dir.nextToken = 0 := by
  cases d <;> decide

theorem witness_CommandWritesAreLostRefusedOrIssued :
    let b : IssuedCommand := { command := .breakRecord, arg0 := 5, arg1 := 0 }
    ({ held with mgmt := { held.mgmt with busy := some b } } : State).mgmt.busy ≠ none ∧ held.mgmt.busy = none ∧
      ((0xABCDEF00 : Word).setWidth 8 ∉ [0x01#8, 0x02, 0x03, 0x10, 0x11, 0x12, 0x1F]) ∧
      ((0x0000001E : Word).setWidth 8 ∉ [0x01#8, 0x02, 0x03, 0x10, 0x11, 0x12, 0x1F]) := by decide

/-- The ends of every range, and the values beside them. -/
theorem witness_ConfigurationWriteIsRangeChecked :
    held.resetN = true ∧
      (∀ r ∈ [ConfigReg.grace, .lapse, .countThreshold, .holdTime, .retransmitInterval, .retransmitLimit,
          .membershipQuota 7, .waitQuota 7],
        (range r).1 ≤ (BitVec.ofNat 32 (range r).1).toNat ∧ (BitVec.ofNat 32 (range r).2).toNat ≤ (range r).2 ∧
          (range r).2 < (BitVec.ofNat 32 ((range r).2 + 1)).toNat) ∧
      (9 : Word).toNat < (range .grace).1 := by decide

/-- Addresses on both sides of the arguments' and at the end of the window, which no other write has as its own. -/
theorem witness_OtherRegisterAccesses :
    held.resetN = true ∧ State.reset.powerOn.resetN = false ∧
      [0x005F#16, 0x0061, 0x0063, 0x0065, 0x0014, 0x0000, 0xFFFF].all (fun a =>
        !hasOwnWrite a && decide (a ≠ 0x0060) && decide (a ≠ 0x0064)) = true := by
  decide

/-- Addresses beside assigned ones, and some fields that are not 0. -/
theorem witness_register_reads :
    (¬ Assigned 0x000C ∧ ¬ Assigned 0x0070 ∧ ¬ Assigned 0x01A0 ∧ ¬ Assigned 0x021C ∧ ¬ Assigned 0x0968 ∧
      ¬ Assigned 0x0A00) ∧
      held.readRegister 0x0200 = 0x00010001 ∧ held.readRegister 0x0904 = 0x00010001 ∧ held.readRegister 0x0010 = 1 ∧
      held.readRegister 0x0310 = 4 ∧ held.readRegister 0x0918 = 1 := by
  unfold Assigned
  decide

/-- The management turn of command `c` with argument `v`. -/
def managing (c : ArbiterCommand) (v : Word) (s : State) : State :=
  { s with mgmt := { s.mgmt with busy := some { command := c, arg0 := v, arg1 := 0 } } }

theorem witness_StatisticWriteClearsOneCounter : held.resetN = true := rfl

/-- For BreakRecordRevokesEveryHolder, InspectRecordWritesTheWindow, ClearQuarantineFreesACleanedSlot and
ResetDirectoryClosesEverything: every command at its turn in every directory state; handles 4095 and 4096. -/
theorem witness_management_turns (c : ArbiterCommand) (d : DirectoryState) :
    ManagementTurn (managing c 5 (setDir d held)) { command := c, arg0 := 5, arg1 := 0 } ∧
      (managing c 5 (setDir d held)).dir.state = d ∧ (4095 : Word).toNat ≤ 4095 ∧ 4095 < (4096 : Word).toNat := by
  cases c <;> cases d <;> unfold ManagementTurn <;> decide

/-- For the same statements: a slot in each state, and a record in each state of its check codes. -/
theorem witness_slots_at_a_management_turn :
    let u (s : State) : State := begun .management (managing .inspectRecord 5 s)
    let r : Record := rec7 .exclusive [0] [1]
    (u (world [] [])).slot 5 = none ∧ (u (broken false)).slot 5 = some (.quarantined false (rec7 .shared [0] [])) ∧
      (u (broken true)).slot 5 = some (.quarantined true (rec7 .shared [0] [])) ∧
      ((u held).record 5 = some r ∧ (u held).verify r = .sound) ∧
      ((u { held with upsets := [.slot 5] }).record 5 = some { r with checkOk := false } ∧
        (u { held with upsets := [.slot 5] }).verify { r with checkOk := false } = .recordFault) ∧
      (u { held with upsets := [.entry 0] }).verify r = .memberFault := by decide

theorem witness_FramesReadBack :
    Request.wf (rq (.acquire 15 .shared true true true 65535 7)) = true ∧
      Request.wf (rq (.release 4095 3)) = true ∧ Request.wf (rq (.acquire 16 .shared true true true 65535 7)) = false ∧
      Request.wf (rq (.release 4096 3)) = false := by decide

/-- The bits of transactions, and the port at the ends of the ranges: before and at the last address bit, at the 55th and the
56th bit, abandoned and released. -/
theorem witness_TransactionsReadBack :
    let port (n : Nat) : State := clocked ((spiReadBits 0x0040 (List.replicate 33 true)).take n) State.reset
    ((spiWriteBits 0x0044 20).take 55).length < 56 ∧ spiWrite ((spiWriteBits 0x0044 20).take 55) = none ∧
      held.resetN = true ∧ (List.replicate 31 true).length < 32 ∧ (spiWriteBits 0x0044 20).take 8 ≠ wireBits 0xA1#8 ∧
      (List.replicate 8 true ≠ wireBits 0xA1#8 ∧ List.replicate 8 true ≠ wireBits 0xA2#8) ∧
      (managing .inspectRecord 5 held).mgmt.busy ≠ none ∧ held.mgmt.busy = none ∧
      ((port 23).spi = .transaction ((spiReadBits 0x0040 []).take 23) 0 ∧ ((port 23).spiSample false).spi = (port 24).spi ∧
        (port 24).spi = .transaction (spiReadBits 0x0040 []) 300) ∧
      ((port 55).spi ≠ (port 56).spi ∧ (port 56).spi = (port 57).spi) ∧
      ((port 24).powerOn.spi = .abandoned ∧ (port 24).spiRelease.spi = .released) := by decide

/-- Agent 0 holds a record, agent 1 waits for it, agent 0's grace timer is due, and its expiry is the next command. -/
def settled : State :=
  { held with
    dir :=
      { held.dir with
        counts :=
          Per.put (Per.put (Vector.replicate 8 { holds := 0, waits := 0, upgrades := 0, nextStamp := 5 }) 0
            { holds := 1, waits := 0, upgrades := 0, nextStamp := 5 }) 1
            { holds := 0, waits := 1, upgrades := 0, nextStamp := 5 } }
    pending := [.graceTimerExpiry 0] }

theorem settled_sessions : SessionsOk settled := by
  refine ⟨fun a => ?_, ?_, ?_⟩
  · have h1 : settled.session a = opened1 := Per.get_replicate opened1 a
    have h2 : settled.moderator a = listening := Per.get_replicate listening a
    rw [h1, h2]
    refine ⟨by unfold SessionOk; decide, ?_⟩
    unfold ModeratorOk ModeratorStateOk OverflowOk DigestOk
    refine ⟨by decide, by decide, by decide, by decide, by decide, ?_, by decide, by decide, by decide, by decide,
      by decide⟩
    intro d hd
    cases hd
  · intro a
    have h1 : settled.session a = opened1 := Per.get_replicate opened1 a
    rw [h1]
    rfl
  · refine ⟨by decide, by decide, by decide, by decide, by decide, by decide, by decide⟩

theorem settled_ports : PortsOk settled := by
  refine ⟨fun a => ?_, rfl⟩
  have h1 : settled.port a = { Port.reset with linkUp := true } := Per.get_replicate _ a
  rw [h1]
  unfold PortOk
  decide

theorem settled_memberships : MembershipsOk settled ∧ CleanupJobsOk settled := by
  refine ⟨⟨by unfold TablesCanonical; decide, by unfold NamesOk; decide, ?_, ?_, ?_⟩, ?_⟩
  · intro e he
    have he' : e ∈ [(5, Slot.live (rec7 .exclusive [0] [1]))] := he
    obtain rfl := List.mem_singleton.mp he'
    refine ⟨?_, ?_, by decide, by decide, by decide, by decide, ?_, by decide⟩
    · intro i hi
      obtain rfl := List.mem_singleton.mp (hi : i ∈ [0])
      change (5 = 5 ∧ Role.hold = Role.hold ∧ Mode.exclusive = Mode.exclusive ∧ (false = true ↔ (none : Option Nat) = some 0))
      decide
    · intro i hi
      obtain rfl := List.mem_singleton.mp (hi : i ∈ [1])
      exact ⟨rfl, rfl⟩
    · intro i hi
      cases hi
  · intro e he
    have he' : e ∈ [(0, mship 0 .hold .exclusive 3), (1, mship 1 .wait .shared 0)] := he
    simp only [List.mem_cons, List.not_mem_nil, or_false] at he'
    rcases he' with rfl | rfl
    · refine ⟨?_, by decide, by decide, by decide, by decide, by decide, by decide, by decide⟩
      change 0 ∈ [0] ++ [1]
      decide
    · refine ⟨?_, by decide, by decide, by decide, by decide, by decide, by decide, by decide⟩
      change 1 ∈ [0] ++ [1]
      decide
  · unfold CountsOk
    decide
  · refine ⟨by decide, fun j hj => ?_, by decide⟩
    cases hj

/-- For StepKeepsTheTablesCanonical, StepKeepsThePorts, StepKeepsTheSessions, StepKeepsTheDirectoryState,
StepKeepsTheDeadlines, StepKeepsTheMemberships, StepKeepsTheTokens and SessionsMoveAlongTheirArcs: what they assume holds
of this state, and the step goes on. -/
theorem witness_StepKeeps :
    TablesCanonical settled ∧ PortsOk settled ∧ SessionsOk settled ∧ DirectoryStateOk settled ∧ CleanupJobsOk settled ∧
      DeadlinesOk settled ∧ MembershipsOk settled ∧ TokensOk settled ∧ settled.heldTokens = [3] ∧
      settled.pending.head? ≠ some .powerOnReset ∧ (settled.session 0).state = .active ∧
      ∃ t, step settled = .next t ∧ exec (.graceTimerExpiry 0) { settled with pending := [] } = .next t ∧
        (t.session 0).state = .suspect := by
  refine ⟨settled_memberships.1.1, settled_ports, settled_sessions, ?_, settled_memberships.2, ?_, settled_memberships.1,
    ⟨by decide, by decide, ?_⟩, rfl, by decide, by decide, _, rfl, rfl, by decide⟩
  · exact ⟨by decide, fun h => absurd h (by decide)⟩
  · unfold DeadlinesOk
    decide
  · intro t ht
    obtain rfl := List.mem_singleton.mp (ht : t ∈ [3#64])
    decide

end Sys2Proof.Tests
end

