-- ==== Sys2Proof/Proofs/DirectCommands.lean ====
section
/-! SUPPORT. A write to CMD with the code of a direct command, and the outcomes of ENABLE_DIRECTORY and LOAD_TOKEN_FLOOR
(R16, R26, R165, R166). -/

namespace Sys2Proof.Machine

open Sys2Proof.Expect

/-! ### The result register in the words of the statements (R165) -/

theorem State.newResult_eq_issued (code : Byte) (s : State) : s.newResult code = issued code s := rfl

theorem State.endDone_eq_done (value : Nat) (s : State) : s.endDone value = done value s := rfl

theorem State.endRefused_eq_rejected (reason : Reason) (s : State) : s.endRefused reason = rejected reason s := rfl

@[simp] theorem issued_dir (code : Byte) (s : State) : (issued code s).dir = s.dir := rfl

/-! ### A write to CMD on an IDLE port (R165, R176) -/

/-- CMD ignores the 24 bits above the code. -/
@[simp] theorem setWidth_append_code (upper : BitVec 24) (code : Byte) : (upper ++ code).setWidth 8 = code := by
  rw [BitVec.setWidth_append, dif_pos (Nat.le_refl 8), BitVec.setWidth_eq]

@[simp] theorem CommandName.ofCode_code (c : CommandName) : CommandName.ofCode c.code = some c := by
  cases c with
  | enableDirectory => rfl
  | loadTokenFloor => rfl
  | evictAgent => rfl
  | arbiter c => cases c <;> rfl

/-- On an IDLE port ENABLE_DIRECTORY is issued and carried out at once. -/
theorem exec_enableDirectory_of_idle {s : State} (upper : BitVec 24) (hreset : s.resetN = true)
    (hidle : s.mgmt.busy = none) : exec (.enableDirectory upper) s = .next (issued 0x01 s).enable := by
  change execEnableDirectory upper s = .next (issued CommandName.enableDirectory.code s).enable
  simp [execEnableDirectory, State.writeCommand, hreset, hidle, State.newResult_eq_issued]

/-- On an IDLE port LOAD_TOKEN_FLOOR is issued and carried out at once, with the value of the two argument registers. -/
theorem exec_loadTokenFloor_of_idle {s : State} (upper : BitVec 24) (hreset : s.resetN = true)
    (hidle : s.mgmt.busy = none) :
    exec (.loadTokenFloor upper) s = .next ((issued 0x02 s).loadFloor (s.mgmt.arg1 ++ s.mgmt.arg0)) := by
  change execLoadTokenFloor upper s =
    .next ((issued CommandName.loadTokenFloor.code s).loadFloor (s.mgmt.arg1 ++ s.mgmt.arg0))
  simp [execLoadTokenFloor, State.writeCommand, hreset, hidle, State.newResult_eq_issued]

/-! ### ENABLE_DIRECTORY (R16) -/

theorem State.enable_of_offline {s : State} (h : s.dir.state = .offline) :
    s.enable = done 0 { s with dir := { s.dir with state := .online } } := by
  simp only [State.enable, h, State.endDone_eq_done]

theorem State.enable_of_not_offline {s : State} (h : s.dir.state = .online ∨ s.dir.state = .halted) :
    s.enable = rejected .notOffline s := by
  rcases h with h | h <;> simp only [State.enable, h, State.endRefused_eq_rejected]

/-! ### LOAD_TOKEN_FLOOR (R26) -/

theorem State.exhausted_iff (s : State) : s.exhausted = true ↔ s.dir.nextToken = 0 := decide_eq_true_iff

section
variable {s : State} {value : Token}

theorem State.loadFloor_of_not_offline (h : s.dir.state = .online ∨ s.dir.state = .halted) :
    s.loadFloor value = rejected .notOffline s := by
  have hne : s.dir.state ≠ .offline := by
    rcases h with h | h <;> simp [h]
  rw [State.loadFloor, if_pos hne, State.endRefused_eq_rejected]

theorem State.loadFloor_of_exhausted (hoff : s.dir.state = .offline) (hzero : s.dir.nextToken = 0) :
    s.loadFloor value = rejected .sequenceExhausted s := by
  rw [State.loadFloor, if_neg (not_not_intro hoff), if_pos (s.exhausted_iff.mpr hzero), State.endRefused_eq_rejected]

theorem State.loadFloor_of_below (hoff : s.dir.state = .offline) (hpos : s.dir.nextToken ≠ 0)
    (hlt : value < s.dir.nextToken) : s.loadFloor value = rejected .belowFloor s := by
  rw [State.loadFloor, if_neg (not_not_intro hoff), if_neg (mt s.exhausted_iff.mp hpos), if_pos hlt,
    State.endRefused_eq_rejected]

theorem State.loadFloor_of_reaches (hoff : s.dir.state = .offline) (hpos : s.dir.nextToken ≠ 0)
    (hle : s.dir.nextToken ≤ value) :
    s.loadFloor value = done 0 { s with dir := { s.dir with nextToken := value } } := by
  rw [State.loadFloor, if_neg (not_not_intro hoff), if_neg (mt s.exhausted_iff.mp hpos),
    if_neg (BitVec.not_lt.mpr hle), State.endDone_eq_done]

end

/-! ### The statement -/

/-- Settles O42: on an IDLE port either command is its operation on the state with the new result, whose directory is the
old one, so that each clause is one branch of `State.enable` or `State.loadFloor`. -/
theorem directCommandsActOnTheDirectory : Obligations.DirectCommandsActOnTheDirectory := by
  intro s upper hreset hidle
  refine ⟨?_, ?_⟩
  · rintro t rfl
    rw [exec_enableDirectory_of_idle upper hreset hidle]
    exact ⟨fun hoff => congrArg _ (State.enable_of_offline hoff),
      fun hnot => congrArg _ (State.enable_of_not_offline hnot)⟩
  · rintro t value rfl rfl
    rw [exec_loadTokenFloor_of_idle upper hreset hidle]
    exact ⟨fun hnot => congrArg _ (State.loadFloor_of_not_offline hnot),
      fun hoff hzero => congrArg _ (State.loadFloor_of_exhausted hoff hzero),
      fun hoff hpos hlt => congrArg _ (State.loadFloor_of_below hoff hpos hlt),
      fun hoff hpos hle => congrArg _ (State.loadFloor_of_reaches hoff hpos hle)⟩

end Sys2Proof.Machine
end

section
/-! SUPPORT. ACQUIRE answered at once, and BREAK_RECORD (R32 to R35, R51): the model's operations in the words of the
statements, then each clause as one branch of the operation. -/

namespace Sys2Proof.Machine

open Sys2Proof.Expect

/-! ### The damage of the moment: what it leaves (log entry 4) -/

section
variable (s : State)

@[simp] theorem State.sufferUpset_mgmt : s.sufferUpset.mgmt = s.mgmt := by rw [State.sufferUpset_eq]

@[simp] theorem State.sufferUpset_ports : s.sufferUpset.ports = s.ports := by rw [State.sufferUpset_eq]

@[simp] theorem State.sufferUpset_sessions : s.sufferUpset.sessions = s.sessions := by
  rw [State.sufferUpset_eq]

@[simp] theorem State.sufferUpset_dir_state : s.sufferUpset.dir.state = s.dir.state := by
  rw [State.sufferUpset_eq]

@[simp] theorem State.sufferUpset_dir_nextToken : s.sufferUpset.dir.nextToken = s.dir.nextToken := by
  rw [State.sufferUpset_eq]

@[simp] theorem State.sufferUpset_dir_counts : s.sufferUpset.dir.counts = s.dir.counts := by
  rw [State.sufferUpset_eq]

/-- The damage does not read the arbiter. -/
theorem State.sufferUpset_setArbiter (x : Arbiter) :
    State.sufferUpset { s with arbiter := x } = { s.sufferUpset with arbiter := x } := by
  cases hu : s.upsets with
  | nil => simp only [State.sufferUpset, hu]
  | cons u rest =>
    simp only [State.sufferUpset, hu]
    cases u with
    | none => rfl
    | slot h => simp only [State.record, State.slot]; split <;> rfl
    | entry i => simp only [State.member]; split <;> rfl

end

/-! ### An operation begins and ends (R22) -/

theorem State.beginOperation_eq_begun (r : Requester) (s : State) : s.beginOperation r = begun r s :=
  s.sufferUpset_setArbiter _

theorem State.endOperation_eq_ended (s : State) : s.endOperation = ended s := rfl

@[simp] theorem begun_dir_state (r : Requester) (s : State) : (begun r s).dir.state = s.dir.state :=
  s.sufferUpset_dir_state

/-! ### The take of a request (R19, R21, R23) -/

section
variable {s : State} {a : AgentId} {q : Request} {rest : List Request}

theorem State.take_eq_taken : s.take a q rest = Expect.taken s a q rest := by
  have hport : (begun (.agent a) s).port a = s.port a := congrArg (Per.get · a) s.sufferUpset_ports
  have hports : (begun (.agent a) s).ports = s.ports := s.sufferUpset_ports
  have hmgmt : (begun (.agent a) s).mgmt = s.mgmt := s.sufferUpset_mgmt
  simp only [State.take, State.beginOperation_eq_begun, State.putPort, State.count, Expect.taken, hport, hports, hmgmt]

theorem State.taken_of_agentTurn (ht : AgentTurn s a q rest) : s.taken a q.body.kind = some (q, rest) := by
  obtain ⟨hreset, hturn, hqueue⟩ := ht
  simp [State.taken, State.turnOf, hreset, hturn, hqueue]

@[simp] theorem taken_session (b : AgentId) : (Expect.taken s a q rest).session b = s.session b :=
  congrArg (Per.get · b) s.sufferUpset_sessions

@[simp] theorem taken_counts (b : AgentId) : (Expect.taken s a q rest).counts b = s.counts b :=
  congrArg (Per.get · b) s.sufferUpset_dir_counts

@[simp] theorem taken_dir_state : (Expect.taken s a q rest).dir.state = s.dir.state := s.sufferUpset_dir_state

@[simp] theorem taken_dir_nextToken : (Expect.taken s a q rest).dir.nextToken = s.dir.nextToken :=
  s.sufferUpset_dir_nextToken

@[simp] theorem taken_mgmt_config : (Expect.taken s a q rest).mgmt.config = s.mgmt.config := rfl

/-- A take frees no slot and fills none. -/
theorem taken_slots_free (j : Nat) :
    Table.get (Expect.taken s a q rest).dir.slots j = none ↔ Table.get s.dir.slots j = none :=
  s.sufferUpset_slot_none j

/-- A take frees no pool entry and fills none. -/
theorem taken_pool_free (j : Nat) :
    Table.get (Expect.taken s a q rest).dir.pool j = none ↔ Table.get s.dir.pool j = none :=
  s.sufferUpset_member_none j

theorem lowestFree_slots_taken {capacity h : Nat} :
    LowestFree (Expect.taken s a q rest).dir.slots capacity h ↔ LowestFree s.dir.slots capacity h := by
  simp only [LowestFree, ne_eq, taken_slots_free]

theorem full_slots_taken {capacity : Nat} :
    Full (Expect.taken s a q rest).dir.slots capacity ↔ Full s.dir.slots capacity := by
  simp only [Full, ne_eq, taken_slots_free]

theorem lowestFree_pool_taken {capacity i : Nat} :
    LowestFree (Expect.taken s a q rest).dir.pool capacity i ↔ LowestFree s.dir.pool capacity i := by
  simp only [LowestFree, ne_eq, taken_pool_free]

theorem full_pool_taken {capacity : Nat} :
    Full (Expect.taken s a q rest).dir.pool capacity ↔ Full s.dir.pool capacity := by
  simp only [Full, ne_eq, taken_pool_free]

theorem membershipQuotaApplies_taken :
    MembershipQuotaApplies (Expect.taken s a q rest) a ↔ MembershipQuotaApplies s a := by
  simp only [MembershipQuotaApplies, taken_mgmt_config, taken_counts]

end

/-! ### The answer to an executed request (R142, R143, R174) -/

theorem RequestBody.target_eq_targetOf (b : RequestBody) : b.target = targetOf b := by cases b <;> rfl

@[simp] theorem State.putPort_putPort (a : AgentId) (x y : Port) (s : State) :
    (s.putPort a x).putPort a y = s.putPort a y := by
  simp only [State.putPort, Per.put_put]

theorem State.respond_eq (a : AgentId) (r : Response) (s : State) :
    s.respond a r = s.putPort a { s.port a with outbound := joined (s.port a) r, reserved := false } := by
  simp only [State.respond, joined, Bool.and_eq_true]

/-- The outcome enters the replay cache of an ACTIVE or a SUSPECT session only. -/
theorem State.remember_eq (a : AgentId) (q : Request) (r : Result) (s : State) :
    s.remember a q r =
      s.putPort a
        { s.port a with
          replay :=
            if (s.session a).state = .active ∨ (s.session a).state = .suspect then
              enterCache { tag := q.tag, kind := q.body.kind, target := targetOf q.body, result := r } (s.port a).replay
            else (s.port a).replay } := by
  have hunchanged : s = s.putPort a (s.port a) := by simp only [State.putPort, State.port, Per.put_get]
  simp only [State.remember, RequestBody.target_eq_targetOf]
  cases (s.session a).state with
  | active => rfl
  | suspect => rfl
  | closed => exact hunchanged
  | retiring => exact hunchanged

theorem State.finish_executed (a : AgentId) (q : Request) (r : Result) (s : State) :
    s.finish a q (.executed r) = executed a q r s := by
  simp only [State.finish, State.remember_eq, State.respond_eq, State.putPort_putPort, State.putPort_port_self]
  rfl

/-- A directory request that passes the checks at take is carried out whole and answered with its result (R22, R23). -/
theorem State.agentTurn_of_served {s : State} {a : AgentId} {q : Request} {rest : List Request}
    (hserved : Served s a q rest) (op : Request → State → State × Result) :
    s.agentTurn a q.body.kind (fun q => State.directoryRequest a (op q)) =
      executed a q (op q (Expect.taken s a q rest)).2 (op q (Expect.taken s a q rest)).1 := by
  obtain ⟨hturn, hactive, honline⟩ := hserved
  have hpass : (Expect.taken s a q rest).directoryRefusal a = none := by
    simp only [State.directoryRefusal, taken_session, taken_dir_state, hactive, honline]
  simp only [State.agentTurn, State.taken_of_agentTurn hturn, State.take_eq_taken, State.directoryRequest, hpass,
    State.finish_executed]

/-! ### A hold is made (R13, R24, R53) -/

theorem State.membershipQuotaReached_iff (s : State) (a : AgentId) :
    s.membershipQuotaReached a = true ↔ MembershipQuotaApplies s a := by
  simp only [State.membershipQuotaReached, Bool.or_eq_true, decide_eq_true_iff]
  rfl

/-- Allocation of a hold with the next token, and the write of its record, are the grant of the statements. -/
theorem State.allocate_hold_eq_granted (s : State) (a : AgentId) (h i : Nat) (mode : Mode) (tag : Tag) (notice : Bool)
    (r : Record) :
    (((s.allocate i (newMembership a h .hold mode s.dir.nextToken tag notice false)).advanceToken.putRecord h r).count
        (.agent a .grants)) = granted a h i mode tag notice (sealed r) s := rfl

/-! ### Record creation (R7, R32) -/

section
variable {s : State} {a : AgentId} {tag : Tag} {ns : Byte} {key : Key} {mode : Mode} {notice : Bool} {h i : Nat}

theorem createRecord_of_quota (hquota : MembershipQuotaApplies s a) :
    createRecord a tag ns key mode notice s = (s, .membershipQuota) := by
  simp only [createRecord, State.membershipQuotaReached_iff, hquota, if_true]

theorem createRecord_of_slots_full (hquota : ¬ MembershipQuotaApplies s a) (hslots : Full s.dir.slots 4096) :
    createRecord a tag ns key mode notice s = (s, .directoryFull) := by
  simp only [createRecord, State.membershipQuotaReached_iff, hquota, if_false, Config.slotCount,
    Table.lowestFree_eq_none.mpr hslots]

theorem createRecord_of_pool_full (hquota : ¬ MembershipQuotaApplies s a) (hslot : LowestFree s.dir.slots 4096 h)
    (hpool : Full s.dir.pool 8192) : createRecord a tag ns key mode notice s = (s, .poolFull) := by
  simp only [createRecord, State.membershipQuotaReached_iff, hquota, if_false, Config.slotCount,
    Table.lowestFree_eq_some.mpr hslot, Config.poolSize, Table.lowestFree_eq_none.mpr hpool]

theorem createRecord_of_exhausted (hquota : ¬ MembershipQuotaApplies s a) (hslot : LowestFree s.dir.slots 4096 h)
    (hentry : LowestFree s.dir.pool 8192 i) (hzero : s.dir.nextToken = 0) :
    createRecord a tag ns key mode notice s = (s, .sequenceExhausted) := by
  simp only [createRecord, State.membershipQuotaReached_iff, hquota, if_false, Config.slotCount,
    Table.lowestFree_eq_some.mpr hslot, Config.poolSize, Table.lowestFree_eq_some.mpr hentry, State.exhausted_iff,
    if_pos hzero]

theorem createRecord_of_free (hquota : ¬ MembershipQuotaApplies s a) (hslot : LowestFree s.dir.slots 4096 h)
    (hentry : LowestFree s.dir.pool 8192 i) (hpos : s.dir.nextToken ≠ 0) :
    createRecord a tag ns key mode notice s =
      (granted a h i mode tag notice
          (sealed
            { ns := ns, key := key, mode := mode, holders := [i], waiters := [], upgrade := none, checkOk := true })
          s,
        .granted h mode s.dir.nextToken) := by
  simp only [createRecord, State.membershipQuotaReached_iff, hquota, if_false, Config.slotCount,
    Table.lowestFree_eq_some.mpr hslot, Config.poolSize, Table.lowestFree_eq_some.mpr hentry, State.exhausted_iff,
    if_neg hpos, State.allocate_hold_eq_granted]

/-! ### An immediate SHARED grant (R34) -/

theorem grantAtOnce_of_quota (hquota : MembershipQuotaApplies s a) :
    grantAtOnce a tag notice h s = (s, .membershipQuota) := by
  simp only [grantAtOnce, State.membershipQuotaReached_iff, hquota, if_true]

theorem grantAtOnce_of_pool_full (hquota : ¬ MembershipQuotaApplies s a) (hpool : Full s.dir.pool 8192) :
    grantAtOnce a tag notice h s = (s, .poolFull) := by
  simp only [grantAtOnce, State.membershipQuotaReached_iff, hquota, if_false, Config.poolSize,
    Table.lowestFree_eq_none.mpr hpool]

theorem grantAtOnce_of_exhausted (hquota : ¬ MembershipQuotaApplies s a) (hentry : LowestFree s.dir.pool 8192 i)
    (hzero : s.dir.nextToken = 0) : grantAtOnce a tag notice h s = (s, .sequenceExhausted) := by
  simp only [grantAtOnce, State.membershipQuotaReached_iff, hquota, if_false, Config.poolSize,
    Table.lowestFree_eq_some.mpr hentry, State.exhausted_iff, if_pos hzero]

theorem grantAtOnce_of_free {r : Record} (hr : s.record h = some r) (hquota : ¬ MembershipQuotaApplies s a)
    (hentry : LowestFree s.dir.pool 8192 i) (hpos : s.dir.nextToken ≠ 0) :
    grantAtOnce a tag notice h s =
      (granted a h i .shared tag notice (sealed { r with holders := r.holders ++ [i] }) s,
        .granted h .shared s.dir.nextToken) := by
  have hkept (m : Membership) : ((s.allocate i m).advanceToken).record h = some r := hr
  simp only [grantAtOnce, State.membershipQuotaReached_iff, hquota, if_false, Config.poolSize,
    Table.lowestFree_eq_some.mpr hentry, State.exhausted_iff, if_neg hpos, State.editRecord, hkept,
    State.allocate_hold_eq_granted]

end

/-! ### An ACQUIRE on a record whose reads are sound (R33 to R35) -/

theorem compatibleNow_iff (mode : Mode) (r : Record) :
    compatibleNow mode r = true ↔ mode = .shared ∧ r.mode = .shared ∧ r.waiters = [] ∧ r.upgrade = none := by
  simp [compatibleNow, and_assoc]

section
variable {s : State} {a : AgentId} {tag : Tag} {mode : Mode} {tryNow prompt notice : Bool} {deadline : BitVec 16}
  {h i : Nat} {r : Record} {m : Membership}

theorem acquireExisting_of_holder (hheld : s.memberOf a r.holders = some (i, m)) :
    acquireExisting a tag mode tryNow prompt notice deadline h r s = (s, .alreadyHeld h m.mode m.token) := by
  simp only [acquireExisting, hheld]

theorem acquireExisting_of_waiter (hheld : s.memberOf a r.holders = none)
    (hwaits : s.memberOf a r.waiters = some (i, m)) :
    acquireExisting a tag mode tryNow prompt notice deadline h r s = (s, .alreadyWaiting h) := by
  simp only [acquireExisting, hheld, hwaits]

theorem acquireExisting_of_compatible (hheld : s.memberOf a r.holders = none) (hwaits : s.memberOf a r.waiters = none)
    (hcompatible : mode = .shared ∧ r.mode = .shared ∧ r.waiters = [] ∧ r.upgrade = none) :
    acquireExisting a tag mode tryNow prompt notice deadline h r s = grantAtOnce a tag notice h s := by
  simp only [acquireExisting, hheld, hwaits, if_pos ((compatibleNow_iff mode r).mpr hcompatible)]

theorem acquireExisting_of_contended (hheld : s.memberOf a r.holders = none) (hwaits : s.memberOf a r.waiters = none)
    (hcontended : ¬ (mode = .shared ∧ r.mode = .shared ∧ r.waiters = [] ∧ r.upgrade = none)) :
    acquireExisting a tag mode true prompt notice deadline h r s = (s, .contended h r.mode r.holders.length) := by
  simp only [acquireExisting, hheld, hwaits, if_neg (mt (compatibleNow_iff mode r).mp hcontended), if_true]

end

/-! ### The turn of an ACQUIRE -/

section
variable {s : State} {a : AgentId} {q : Request} {rest : List Request} {ns : Byte} {mode : Mode}
  {tryNow prompt notice : Bool} {deadline : BitVec 16} {key : Key}

/-- An ACQUIRE that is served ends with the state and the result that its operation gives on the state after the
take. -/
theorem exec_acquire_of_served {r : Result} {t : State} (hserved : Served s a q rest)
    (hbody : q.body = .acquire ns mode tryNow prompt notice deadline key)
    (hop : acquireOp a q (Expect.taken s a q rest) = (t, r)) : exec (.acquire a) s = .next (executed a q r t) := by
  have hkind : q.body.kind = .acquire := by rw [hbody]; rfl
  have hrun := State.agentTurn_of_served hserved (acquireOp a)
  rw [hkind, hop] at hrun
  exact congrArg _ hrun

theorem acquireOp_of_free_name (hbody : q.body = .acquire ns mode tryNow prompt notice deadline key)
    (hname : s.findName ns key = none) : acquireOp a q s = createRecord a q.tag ns key mode notice s := by
  simp only [acquireOp, hbody, hname]

theorem acquireOp_of_sound {h : Nat} {r : Record}
    (hbody : q.body = .acquire ns mode tryNow prompt notice deadline key) (hname : s.findName ns key = some (h, r))
    (hsound : s.verify r = .sound) :
    acquireOp a q s = acquireExisting a q.tag mode tryNow prompt notice deadline h r s := by
  simp only [acquireOp, hbody, hname, State.onRecord, hsound]

end

/-! ### ACQUIRE: the statements -/

/-- Settles O9: past the take the operation is record creation, whose checks read of the state what the take leaves. -/
theorem acquireOnAFreeNameCreatesTheRecord : Obligations.AcquireOnAFreeNameCreatesTheRecord := by
  intro s a q rest ns mode tryNow prompt notice deadline key hserved hbody hname
  have hrun {r : Result} {t : State}
      (hcreate : createRecord a q.tag ns key mode notice (Expect.taken s a q rest) = (t, r)) :
      exec (.acquire a) s = .next (executed a q r t) :=
    exec_acquire_of_served hserved hbody ((acquireOp_of_free_name hbody hname).trans hcreate)
  rw [← membershipQuotaApplies_taken (q := q) (rest := rest)]
  refine ⟨fun hquota => ?quota, fun hquota hslots => ?slots, fun h hquota hslot hpool => ?pool,
    fun h i hquota hslot hentry hzero => ?exhausted, fun h i hquota hslot hentry hpos => ?granted⟩
  case quota => exact hrun (createRecord_of_quota hquota)
  case slots => exact hrun (createRecord_of_slots_full hquota (full_slots_taken.mpr hslots))
  case pool =>
    exact hrun (createRecord_of_pool_full hquota (lowestFree_slots_taken.mpr hslot) (full_pool_taken.mpr hpool))
  case exhausted =>
    exact hrun (createRecord_of_exhausted hquota (lowestFree_slots_taken.mpr hslot) (lowestFree_pool_taken.mpr hentry)
      (taken_dir_nextToken.trans hzero))
  case granted =>
    rw [← taken_dir_nextToken (a := a) (q := q) (rest := rest)] at hpos ⊢
    exact hrun (createRecord_of_free hquota (lowestFree_slots_taken.mpr hslot) (lowestFree_pool_taken.mpr hentry) hpos)

/-- Settles O10: past the take and the sound reads the operation is `acquireExisting`, one branch for each clause. -/
theorem acquireOnALiveRecordIsAnsweredAtOnce : Obligations.AcquireOnALiveRecordIsAnsweredAtOnce := by
  intro s a q rest ns mode tryNow prompt notice deadline key h r u hserved hbody hu hname hrecord hsound
  subst hu
  have hrun {x : Result} {t : State}
      (hop : acquireExisting a q.tag mode tryNow prompt notice deadline h r (Expect.taken s a q rest) = (t, x)) :
      exec (.acquire a) s = .next (executed a q x t) :=
    exec_acquire_of_served hserved hbody ((acquireOp_of_sound hbody hname hsound).trans hop)
  refine ⟨fun i m hheld => hrun (acquireExisting_of_holder hheld),
    fun i m hheld hwaits => hrun (acquireExisting_of_waiter hheld hwaits),
    fun hheld hwaits => ⟨?compatible, ?contended⟩⟩
  case compatible =>
    intro hcompatible
    have hgrant {x : Result} {t : State}
        (hop : grantAtOnce a q.tag notice h (Expect.taken s a q rest) = (t, x)) :
        exec (.acquire a) s = .next (executed a q x t) :=
      hrun ((acquireExisting_of_compatible hheld hwaits hcompatible).trans hop)
    rw [← membershipQuotaApplies_taken (q := q) (rest := rest)]
    refine ⟨fun hquota => ?quota, fun hquota hpool => ?pool, fun i hquota hentry hzero => ?exhausted,
      fun i hquota hentry hpos => ?granted⟩
    case quota => exact hgrant (grantAtOnce_of_quota hquota)
    case pool => exact hgrant (grantAtOnce_of_pool_full hquota (full_pool_taken.mpr hpool))
    case exhausted =>
      exact hgrant (grantAtOnce_of_exhausted hquota (lowestFree_pool_taken.mpr hentry)
        (taken_dir_nextToken.trans hzero))
    case granted =>
      rw [← taken_dir_nextToken (a := a) (q := q) (rest := rest)] at hpos ⊢
      exact hgrant (grantAtOnce_of_free hrecord hquota (lowestFree_pool_taken.mpr hentry) hpos)
  case contended =>
    rintro hcontended rfl
    exact hrun (acquireExisting_of_contended hheld hwaits hcontended)

/-! ### Check failures (R17, R98, R151 to R154) -/

theorem State.halt_eq_halted (cause : HaltCause) (s : State) : s.halt cause = halted cause s := rfl

theorem State.memberFault_eq_halted (s : State) : s.memberFault = halted .membershipFault s :=
  s.halt_eq_halted _

theorem State.cleanupCount_eq_countP (s : State) : s.cleanupCount = s.sweep.countP isCleanup :=
  List.countP_congr fun j _ => by cases j <;> rfl

theorem State.quarantine_eq_quarantined (h : Nat) (r : Record) (s : State) :
    s.quarantine h r = quarantined h r s := by
  by_cases hroom : s.sweep.countP isCleanup < 8
  · simp only [State.quarantine, quarantined, State.cleanupCount_eq_countP, Config.cleanupJobs, if_pos hroom,
      decide_eq_true_iff, if_neg (Nat.not_le.mpr hroom)]
    rfl
  · simp only [State.quarantine, quarantined, State.cleanupCount_eq_countP, Config.cleanupJobs, if_neg hroom,
      decide_eq_true_iff, if_pos (Nat.not_lt.mp hroom)]
    rfl

/-! ### The management turn and its handle (R51, R63, R156, R168) -/

theorem State.managementTurn_of_turn {s : State} {c : IssuedCommand} (hturn : ManagementTurn s c)
    (op : IssuedCommand → State → State) :
    s.managementTurn c.command op = ended (op c (begun .management s)) := by
  obtain ⟨hreset, hnext, hbusy⟩ := hturn
  have hmine : s.turnOf .management = true := by simp [State.turnOf, hreset, hnext]
  simp only [State.managementTurn, hbusy, if_true, State.turn, hmine, State.beginOperation_eq_begun,
    State.endOperation_eq_ended]

section
variable {s : State} {c : IssuedCommand} {op : Nat → State → State}

theorem onHandle_of_bad_handle (hbad : 4095 < c.arg0.toNat) : onHandle c op s = rejected .badHandle s :=
  if_pos hbad

theorem onHandle_of_halted (hgood : c.arg0.toNat ≤ 4095) (hhalt : s.dir.state = .halted) :
    onHandle c op s = rejected .halted s :=
  (if_neg (Nat.not_lt.mpr hgood)).trans (if_pos hhalt)

theorem onHandle_of_good (hgood : c.arg0.toNat ≤ 4095) (hhalt : s.dir.state ≠ .halted) :
    onHandle c op s = op c.arg0.toNat s :=
  (if_neg (Nat.not_lt.mpr hgood)).trans (if_neg hhalt)

end

/-! ### BREAK_RECORD past its first two checks (R51) -/

/-- Each holder that is found in the pool is removed and told, in grant order. -/
theorem State.revokeAll_eq_foldl (h : Nat) (refs : List Nat) (s : State) :
    s.revokeAll h refs =
      refs.foldl
        (fun t i =>
          match t.member i with
          | some m => (t.removeHold h i).notify m.agent (.revoked h m.token)
          | none => t)
        s := by
  refine congrArg (fun f => refs.foldl f s) (funext₂ fun t i => ?_)
  rw [State.revoke]
  cases t.member i <;> rfl

section
variable {s : State} {h : Nat} {r : Record}

theorem breakSlot_of_not_live (hr : s.record h = none) : breakSlot h s = rejected .notLive s := by
  simp only [breakSlot, hr, State.endRefused_eq_rejected]

theorem breakSlot_of_recordFault (hr : s.record h = some r) (hv : s.verify r = .recordFault) :
    breakSlot h s = rejected .recordFault (quarantined h r s) := by
  simp only [breakSlot, hr, hv, State.quarantine_eq_quarantined, State.endRefused_eq_rejected]

theorem breakSlot_of_memberFault (hr : s.record h = some r) (hv : s.verify r = .memberFault) :
    breakSlot h s = rejected .membershipFault (halted .membershipFault s) := by
  simp only [breakSlot, hr, hv, State.memberFault_eq_halted, State.endRefused_eq_rejected]

theorem breakSlot_of_sound (hr : s.record h = some r) (hv : s.verify r = .sound) :
    breakSlot h s =
      done r.holders.length
        ((r.holders.foldl
          (fun t i =>
            match t.member i with
            | some m => (t.removeHold h i).notify m.agent (.revoked h m.token)
            | none => t)
          s).grantPass h) := by
  simp only [breakSlot, hr, hv, State.endDone_eq_done, State.revokeAll_eq_foldl]

end

/-! ### BREAK_RECORD: the statement -/

/-- Settles O47: at the turn the command is `breakSlot` behind the checks of the handle and of the halt. -/
theorem breakRecordRevokesEveryHolder : Obligations.BreakRecordRevokesEveryHolder := by
  intro s c h u hturn hcommand hh hu
  subst hh hu
  have hrun {t : State} (hop : onHandle c breakSlot (begun .management s) = t) :
      exec .breakRecord s = .next (ended t) := by
    have hmanaged := State.managementTurn_of_turn hturn (fun c => onHandle c breakSlot)
    rw [hcommand, hop] at hmanaged
    exact congrArg _ hmanaged
  have hbreak {t : State} (hgood : c.arg0.toNat ≤ 4095) (hhalt : s.dir.state ≠ .halted)
      (hop : breakSlot c.arg0.toNat (begun .management s) = t) : exec .breakRecord s = .next (ended t) :=
    hrun ((onHandle_of_good hgood (by rwa [begun_dir_state])).trans hop)
  refine ⟨fun hbad => ?badHandle, fun hgood hhalt => ?halted, fun hgood hhalt hr => ?notLive,
    fun r hgood hhalt hr => ⟨fun hv => ?recordFault, fun hv => ?memberFault, fun hv => ?sound⟩⟩
  case badHandle => exact hrun (onHandle_of_bad_handle hbad)
  case halted => exact hrun (onHandle_of_halted hgood (by rwa [begun_dir_state]))
  case notLive => exact hbreak hgood hhalt (breakSlot_of_not_live hr)
  case recordFault => exact hbreak hgood hhalt (breakSlot_of_recordFault hr hv)
  case memberFault => exact hbreak hgood hhalt (breakSlot_of_memberFault hr hv)
  case sound => exact hbreak hgood hhalt (breakSlot_of_sound hr hv)

end Sys2Proof.Machine
end

section
/-! SUPPORT. The arrival of a frame and its report to the Session Controller, and KEEPALIVE (R83, R84, R136). -/

namespace Sys2Proof.Machine

open Sys2Proof.Expect

/-! ### The report of an accepted frame in the words of the statements (R83) -/

section
variable {s : State} {a : AgentId} {epoch : Epoch}

theorem State.frameReport_eq_heard : s.frameReport a epoch = heard a epoch s := rfl

theorem heard_of_current (hactive : (s.session a).state = .active) (hcurrent : epoch = (s.session a).epoch) :
    heard a epoch s = graced a s := if_pos ⟨hactive, hcurrent⟩

theorem heard_of_not_current (hnot : (s.session a).state ≠ .active ∨ epoch ≠ (s.session a).epoch) :
    heard a epoch s = s := if_neg (not_and_or.mpr hnot)

end

/-! ### A frame that passes the frame checks on an UP link (R133, R135) -/

section
variable {s : State} {a : AgentId} {frame : List Byte}

theorem State.receive_of_readFrame {x : Arrival} (hreset : s.resetN = true) (hup : (s.port a).linkUp = true)
    (hread : readFrame frame = some x) : s.receive a frame = s.arrive a x := by
  simp only [State.receive, hreset, hup, Bool.and_self, if_true, hread]

/-- A KEEPALIVE is its report to the Session Controller and nothing more. -/
theorem exec_keepalive_of_readFrame {e : Epoch} (hreset : s.resetN = true) (hup : (s.port a).linkUp = true)
    (hread : readFrame frame = some (.keepalive e)) : exec (.keepalive a frame) s = .next (heard a e s) := by
  change execKeepalive a frame s = .next (heard a e s)
  rw [execKeepalive, State.receive_of_readFrame hreset hup hread, State.arrive, State.frameReport_eq_heard]

end

/-! ### The statement -/

/-- Settles O37: the frame is its report, which restarts the grace timer or leaves the state as it was. -/
theorem keepaliveRestartsTheGraceTimer : Obligations.KeepaliveRestartsTheGraceTimer := by
  intro s a frame e hreset hup hread
  rw [exec_keepalive_of_readFrame hreset hup hread]
  exact ⟨fun hactive hcurrent => congrArg _ (heard_of_current hactive hcurrent),
    fun hnot => congrArg _ (heard_of_not_current hnot)⟩

end Sys2Proof.Machine
end

section
/-! SUPPORT. The emission check and the judgment of an ACK, and the statement on ACK (R116, R121, R122). -/

namespace Sys2Proof.Machine

open Sys2Proof.Expect

/-! ### Emission in the words of the statements (R116 to R118) -/

theorem State.count_eq_counted (r : StatReg) (s : State) : s.count r = counted r s := rfl

theorem State.putModerator_eq_wroteModerator (a : AgentId) (m : Moderator) (s : State) :
    s.putModerator a m = wroteModerator a m s := rfl

theorem State.emit_eq_emitted (a : AgentId) (s : State) : s.emit a = emitted a s := rfl

theorem Notification.isPrompt_eq_prompted (n : Notification) : n.isPrompt = prompted n := by cases n <;> rfl

theorem emissionCondition_iff (c : ConfigValues) (m : Moderator) :
    emissionCondition c m = true ↔ EmissionDue c m := by
  simp only [emissionCondition, EmissionDue, Notification.isPrompt_eq_prompted, Bool.or_eq_true, Bool.and_eq_true,
    decide_eq_true_eq, List.any_eq_true, or_assoc]

theorem State.checkEmission_checked (a : AgentId) (s : State) : Checked a s (s.checkEmission a) :=
  ⟨fun hdue => if_pos ((emissionCondition_iff ..).mpr hdue),
    fun hnot => if_neg (mt (emissionCondition_iff ..).mp hnot)⟩

/-- The entry into COLLECTING ends with the check of the emission condition (R116, R117). -/
theorem State.enterCollecting_checked (a : AgentId) (s : State) : Checked a (collecting a s) (s.enterCollecting a) :=
  State.checkEmission_checked a (collecting a s)

/-! ### The judgment of an ACK (R121) -/

section
variable {s : State} {a : AgentId} {n : Byte} {e : Epoch}

theorem State.judgeAck_of_not_accepting (hclosed : (s.moderator a).accepting = false) : s.judgeAck a n e = s := by
  simp [State.judgeAck, hclosed]

theorem State.judgeAck_of_other_epoch (hopen : (s.moderator a).accepting = true) (hother : e ≠ (s.moderator a).epoch) :
    s.judgeAck a n e = counted (.agent a .acksIgnored) s := by
  simp only [State.judgeAck, hopen, if_true, if_pos hother, State.count_eq_counted]

/-- An ACK of the digest before the next number is a repeat of the last one accepted. -/
theorem State.judgeAck_of_repeated (hopen : (s.moderator a).accepting = true) (hcurrent : e = (s.moderator a).epoch)
    (hrepeated : n + 1 = (s.moderator a).number) : s.judgeAck a n e = s := by
  simp only [State.judgeAck, hopen, if_true, hcurrent, ne_eq, not_true_eq_false, if_false,
    if_pos (eq_sub_of_add_eq hrepeated)]

theorem State.judgeAck_of_unmatched (hopen : (s.moderator a).accepting = true) (hcurrent : e = (s.moderator a).epoch)
    (hfresh : n + 1 ≠ (s.moderator a).number) (hunmatched : ∀ d ∈ (s.moderator a).inFlight, n ≠ d.number) :
    s.judgeAck a n e = counted (.agent a .acksIgnored) s := by
  simp only [State.judgeAck, hopen, if_true, hcurrent, ne_eq, not_true_eq_false, if_false,
    if_neg (mt add_eq_of_eq_sub hfresh)]
  cases hflight : (s.moderator a).inFlight with
  | none => rfl
  | some d => exact if_neg (hunmatched d hflight)

theorem State.judgeAck_of_matched {d : Digest} (hopen : (s.moderator a).accepting = true)
    (hcurrent : e = (s.moderator a).epoch) (hfresh : n + 1 ≠ (s.moderator a).number)
    (hflight : (s.moderator a).inFlight = some d) (hmatched : n = d.number) : s.judgeAck a n e = s.acceptAck a d := by
  simp only [State.judgeAck, hopen, if_true, hcurrent, ne_eq, not_true_eq_false, if_false,
    if_neg (mt add_eq_of_eq_sub hfresh), hflight, if_pos hmatched]

end

/-! ### An accepted ACK (R122) -/

section
variable {s : State} {a : AgentId} {d : Digest}

theorem State.acceptAck_of_outstanding_empty (hstate : (s.moderator a).state = .outstanding)
    (hpending : (s.moderator a).pending = []) :
    s.acceptAck a d = wroteModerator a { acknowledged d (s.moderator a) with state := .empty } s := by
  simp only [State.acceptAck, hstate, hpending, List.isEmpty_nil, if_true]
  rw [State.putModerator_eq_wroteModerator, acknowledged, hpending]

theorem State.acceptAck_of_outstanding_pending (hstate : (s.moderator a).state = .outstanding)
    (hpending : (s.moderator a).pending ≠ []) :
    s.acceptAck a d = (wroteModerator a (acknowledged d (s.moderator a)) s).enterCollecting a := by
  simp only [State.acceptAck, hstate, List.isEmpty_iff, if_neg hpending]
  rw [State.putModerator_eq_wroteModerator, acknowledged, hstate]

theorem State.acceptAck_of_stalled (hstate : (s.moderator a).state = .stalled) :
    s.acceptAck a d = wroteModerator a (acknowledged d (s.moderator a)) s := by
  simp only [State.acceptAck, hstate]
  rw [State.putModerator_eq_wroteModerator, acknowledged, hstate]

end

/-! ### The frame (R83, R136) -/

theorem heard_moderator (a b : AgentId) (e : Epoch) (s : State) : (heard a e s).moderator b = s.moderator b := by
  rw [heard]
  split <;> rfl

/-- An ACK is reported to the Session Controller and then judged. -/
theorem exec_ack_of_readFrame {s : State} {a : AgentId} {frame : List Byte} {n : Byte} {e : Epoch}
    (hreset : s.resetN = true) (hup : (s.port a).linkUp = true) (hread : readFrame frame = some (.ack n e)) :
    exec (.ack a frame) s = .next ((heard a e s).judgeAck a n e) := by
  change execAck a frame s = .next ((heard a e s).judgeAck a n e)
  rw [execAck, State.receive_of_readFrame hreset hup hread, State.arrive, State.frameReport_eq_heard]

/-! ### The statement -/

/-- Settles O36: the report leaves the moderator as it was, so the judgment after it is on `m`; one branch for each case of
R121, and in the last one for each state of R122. -/
theorem ackIsJudgedByTheFirstCase : Obligations.AckIsJudgedByTheFirstCase := by
  intro s a frame n e t m hreset hup hread ht hm
  have hrun {w : State} (hjudged : t.judgeAck a n e = w) : exec (.ack a frame) s = .next w := by
    rw [exec_ack_of_readFrame hreset hup hread, ← ht, hjudged]
  have hkept : m = t.moderator a := by rw [hm, ht, heard_moderator]
  subst hkept
  refine ⟨fun hclosed => ?notAccepting, fun hopen hother => ?otherEpoch, fun hopen hcurrent hrepeated => ?repeated,
    fun hopen hcurrent hfresh hunmatched => ?unmatched, fun d hopen hcurrent hfresh hflight hmatched => ?matched⟩
  case notAccepting => exact hrun (State.judgeAck_of_not_accepting hclosed)
  case otherEpoch => exact hrun (State.judgeAck_of_other_epoch hopen hother)
  case repeated => exact hrun (State.judgeAck_of_repeated hopen hcurrent hrepeated)
  case unmatched => exact hrun (State.judgeAck_of_unmatched hopen hcurrent hfresh hunmatched)
  case matched =>
    have haccepted {w : State} (hop : t.acceptAck a d = w) : exec (.ack a frame) s = .next w :=
      hrun ((State.judgeAck_of_matched hopen hcurrent hfresh hflight hmatched).trans hop)
    refine ⟨fun hstate hpending => ?empty, fun hstate hpending => ?collecting, fun hstate => ?stalled⟩
    case empty => exact haccepted (State.acceptAck_of_outstanding_empty hstate hpending)
    case collecting =>
      exact ⟨_, haccepted (State.acceptAck_of_outstanding_pending hstate hpending), State.enterCollecting_checked a _⟩
    case stalled => exact haccepted (State.acceptAck_of_stalled hstate)

end Sys2Proof.Machine
end

section
/-! SUPPORT. CLEAR_QUARANTINE past its first two checks, and the statement on it (R156). -/

namespace Sys2Proof.Machine

open Sys2Proof.Expect

/-! ### CLEAR_QUARANTINE past its first two checks (R156) -/

section
variable {s : State} {h : Nat} {r : Record}

theorem clearSlot_of_free (hslot : s.slot h = none) : clearSlot h s = rejected .notQuarantined s := by
  simp only [clearSlot, hslot, State.endRefused_eq_rejected]

theorem clearSlot_of_live (hslot : s.slot h = some (.live r)) : clearSlot h s = rejected .notQuarantined s := by
  simp only [clearSlot, hslot, State.endRefused_eq_rejected]

theorem clearSlot_of_cleanup_pending (hslot : s.slot h = some (.quarantined false r)) :
    clearSlot h s = rejected .notCleaned s := by
  simp only [clearSlot, hslot, State.endRefused_eq_rejected]

theorem clearSlot_of_cleaned (hslot : s.slot h = some (.quarantined true r)) :
    clearSlot h s = done 0 { s with dir := { s.dir with slots := Table.free s.dir.slots h } } := by
  simp only [clearSlot, hslot, State.endDone_eq_done, State.freeSlot]

end

/-! ### CLEAR_QUARANTINE at its turn (R19, R156, R168) -/

section
variable {s : State} {c : IssuedCommand}

theorem exec_clearQuarantine_of_turn (hturn : ManagementTurn s c) (hcommand : c.command = .clearQuarantine) :
    exec .clearQuarantine s = .next (ended (onHandle c clearSlot (begun .management s))) := by
  have hmanaged := State.managementTurn_of_turn hturn (fun c => onHandle c clearSlot)
  rw [hcommand] at hmanaged
  exact congrArg _ hmanaged

/-- Past the checks of the handle and of the halt the command is `clearSlot`. -/
theorem exec_clearQuarantine_of_good (hturn : ManagementTurn s c) (hcommand : c.command = .clearQuarantine)
    (hgood : c.arg0.toNat ≤ 4095) (hhalt : s.dir.state ≠ .halted) :
    exec .clearQuarantine s = .next (ended (clearSlot c.arg0.toNat (begun .management s))) := by
  rw [exec_clearQuarantine_of_turn hturn hcommand, onHandle_of_good hgood (by rwa [begun_dir_state])]

end

/-! ### The statement -/

/-- Settles O49: the checks of the handle and of the halt, and behind them one branch of `clearSlot` for each state of the
slot. -/
theorem clearQuarantineFreesACleanedSlot : Obligations.ClearQuarantineFreesACleanedSlot := by
  intro s c h u hturn hcommand hh hu
  subst hh hu
  refine ⟨fun hbad => ?badHandle, fun hgood hhalt => ?halted, fun hgood hhalt => ?pastChecks⟩
  case badHandle => rw [exec_clearQuarantine_of_turn hturn hcommand, onHandle_of_bad_handle hbad]
  case halted =>
    rw [exec_clearQuarantine_of_turn hturn hcommand, onHandle_of_halted hgood (by rwa [begun_dir_state])]
  case pastChecks =>
    rw [exec_clearQuarantine_of_good hturn hcommand hgood hhalt]
    refine ⟨fun hslot => ?free, fun r hslot => ?live, fun r hslot => ?cleanupPending, fun r hslot => ?cleaned⟩
    case free => rw [clearSlot_of_free hslot]
    case live => rw [clearSlot_of_live hslot]
    case cleanupPending => rw [clearSlot_of_cleanup_pending hslot]
    case cleaned => rw [clearSlot_of_cleaned hslot]

end Sys2Proof.Machine
end

section
/-! SUPPORT. Reading a statistic after a write to it or to another, and the statement on the clearing of a statistic
(R171, R172). -/

namespace Sys2Proof.Machine

/-! ### A statistic read after a write to a statistic (R171) -/

/-- Each of the ten counters is a field of its own: one case for each pair of the counter written and the counter read. -/
theorem AgentStats.get_put (t : AgentStats) (k k' : AgentStat) (w : Word) :
    (t.put k w).get k' = if k' = k then w else t.get k' := by
  cases k <;> cases k' <;> rfl

@[simp] theorem Management.stat_putStat_self (m : Management) (r : StatReg) (w : Word) : (m.putStat r w).stat r = w := by
  cases r with
  | quarantines => rfl
  | agent a k => simp [Management.stat, Management.putStat, AgentStats.get_put]

/-- Two statistics differ in their agent or in their counter, or one of them is the quarantine count. -/
theorem Management.stat_putStat_of_ne (m : Management) {r r' : StatReg} (w : Word) (h : r' ≠ r) :
    (m.putStat r w).stat r' = m.stat r' := by
  cases r with
  | quarantines =>
    cases r' with
    | quarantines => exact absurd rfl h
    | agent a' k' => rfl
  | agent a k =>
    cases r' with
    | quarantines => rfl
    | agent a' k' =>
      simp only [Management.stat, Management.putStat]
      by_cases hagent : a' = a
      · subst hagent
        have hcounter : k' ≠ k := fun hk => h (hk ▸ rfl)
        rw [Per.get_put_self, AgentStats.get_put, if_neg hcounter]
      · rw [Per.get_put_of_ne _ _ hagent]

/-- A write to a statistic reaches nothing of the management port but the statistics. -/
theorem Management.putStat_frame (m : Management) (r : StatReg) (w : Word) :
    m.putStat r w = { m with stats := (m.putStat r w).stats, quarantines := (m.putStat r w).quarantines } := by
  cases r <;> rfl

@[simp] theorem State.readRegister_statAddress (s : State) (r : StatReg) :
    s.readRegister (statAddress r) = s.mgmt.stat r := by
  simp [State.readRegister]

/-! ### The statement -/

theorem exec_statisticWrite_of_resetN {s : State} (r : StatReg) (value : Word) (hreset : s.resetN = true) :
    exec (.statisticWrite r value) s = .next { s with mgmt := s.mgmt.putStat r 0 } := by
  change execStatisticWrite r value s = _
  rw [execStatisticWrite, if_pos hreset, State.clearStat]

/-- Settles O45: the write stores 0 in the statistic, whatever the value, and each statistic's address reads the statistic. -/
theorem statisticWriteClearsOneCounter : Obligations.StatisticWriteClearsOneCounter := by
  intro s r value hreset
  refine ⟨s.mgmt.putStat r 0, exec_statisticWrite_of_resetN r value hreset, Management.putStat_frame s.mgmt r 0,
    ?cleared, fun r' hne => ?kept⟩
  case cleared => rw [State.readRegister_statAddress, Management.stat_putStat_self]
  case kept =>
    rw [State.readRegister_statAddress, State.readRegister_statAddress, Management.stat_putStat_of_ne _ _ hne]

end Sys2Proof.Machine
end

section
/-! SUPPORT. What an operation of the engine may do to the record slots, the membership entries with the fencing tokens,
and the deadline entries; and the statements on their canonical form, their order and the tokens (R1, R10, R24, R25, R65,
R66). -/

namespace Sys2Proof.Machine

open Sys2Proof.Expect

/-! ### The edits of the membership entries (R10, R24) -/

/-- `PoolEdits p n q k`: from the entries `p` and next token `n` the engine comes to `q` and `k` by writes that keep role
and token, new waits, grants with the next token, entries freed, and floors loaded (R24, R26). -/
inductive PoolEdits (p : Table Membership) (n : Token) : Table Membership → Token → Prop
  | refl : PoolEdits p n p n
  | keep {q : Table Membership} {k : Token} {i : Nat} {m m' : Membership} : PoolEdits p n q k →
      Table.get q i = some m → m'.role = m.role → m'.token = m.token → PoolEdits p n (Table.put q i m') k
  | wait {q : Table Membership} {k : Token} {i : Nat} {m' : Membership} : PoolEdits p n q k →
      Table.get q i = none → i < Config.poolSize → m'.role = .wait → PoolEdits p n (Table.put q i m') k
  | grant {q : Table Membership} {k : Token} {i : Nat} {m' : Membership} : PoolEdits p n q k →
      Table.get q i ≠ none ∨ i < Config.poolSize → k ≠ 0 → m'.token = k → PoolEdits p n (Table.put q i m') (k + 1)
  | free {q : Table Membership} {k : Token} (i : Nat) : PoolEdits p n q k → PoolEdits p n (Table.free q i) k
  | clear {q : Table Membership} {k : Token} : PoolEdits p n q k → PoolEdits p n [] k
  | floor {q : Table Membership} {k v : Token} : PoolEdits p n q k → k ≠ 0 → k ≤ v → PoolEdits p n q v

theorem PoolEdits.trans {p q r : Table Membership} {n k l : Token} (h : PoolEdits p n q k) (h' : PoolEdits q k r l) :
    PoolEdits p n r l := by
  induction h' with
  | refl => exact h
  | keep _ hget hrole htoken ih => exact ih.keep hget hrole htoken
  | wait _ hget hi hrole ih => exact ih.wait hget hi hrole
  | grant _ hi hk htoken ih => exact ih.grant hi hk htoken
  | free i _ ih => exact ih.free i
  | clear _ ih => exact ih.clear
  | floor _ hk hv ih => exact ih.floor hk hv

/-- A used index of a canonical table lies below its capacity. -/
theorem Table.lt_of_get {α : Type} {capacity i : Nat} {t : Table α} (hwf : Table.wf capacity t = true)
    (hget : Table.get t i ≠ none) : i < capacity := by
  obtain ⟨x, hx⟩ := Option.ne_none_iff_exists'.mp hget
  exact ((Table.wf_iff capacity t).mp hwf).2 _ (Table.mem_of_get hx)

/-- A write to a used index, or below the capacity, keeps the canonical form. -/
theorem Table.wf_put_of_used {α : Type} {capacity i : Nat} {t : Table α} (x : α) (hwf : Table.wf capacity t = true)
    (hi : Table.get t i ≠ none ∨ i < capacity) : Table.wf capacity (Table.put t i x) = true :=
  Table.wf_put x hwf (hi.elim (Table.lt_of_get hwf) id)

theorem PoolEdits.wf {p q : Table Membership} {n k : Token} (h : PoolEdits p n q k)
    (hwf : Table.wf Config.poolSize p = true) : Table.wf Config.poolSize q = true := by
  induction h with
  | refl => exact hwf
  | keep _ hget _ _ ih => exact Table.wf_put_of_used _ ih (.inl (by simp [hget]))
  | wait _ _ hi _ ih => exact Table.wf_put_of_used _ ih (.inr hi)
  | grant _ hi _ _ ih => exact Table.wf_put_of_used _ ih hi
  | free i _ ih => exact Table.wf_free i ih
  | clear _ _ => rfl
  | floor _ _ _ ih => exact ih

/-! ### Fencing tokens (R24, R25) -/

theorem TokenRises.refl (n : Token) : TokenRises n n := ⟨id, fun _ => .inr (BitVec.le_refl n)⟩

/-- A rise behind a rise is a rise. -/
theorem TokenRises.trans {n k l : Token} (h : TokenRises n k) (h' : TokenRises k l) : TokenRises n l := by
  refine ⟨fun hn => h'.1 (h.1 hn), fun hn => ?_⟩
  rcases h.2 hn with hk | hk
  · exact .inl (h'.1 hk)
  · by_cases hk0 : k = 0
    · exact .inl (h'.1 hk0)
    · exact (h'.2 hk0).imp id (BitVec.le_trans hk)

/-- The next token after a grant is 0 or greater. -/
theorem token_succ (k : Token) : k + 1 = 0 ∨ k < k + 1 := by
  by_cases h : k + 1 = 0
  · exact .inl h
  · exact .inr (by bv_omega)

theorem PoolEdits.tokenRises {p q : Table Membership} {n k : Token} (h : PoolEdits p n q k) : TokenRises n k := by
  induction h with
  | refl => exact .refl n
  | keep _ _ _ _ ih => exact ih
  | wait _ _ _ _ ih => exact ih
  | @grant _ k _ _ _ _ hk _ ih =>
    exact ih.trans ⟨fun h => absurd h hk, fun _ => (token_succ k).imp id BitVec.le_of_lt⟩
  | free i _ ih => exact ih
  | clear _ ih => exact ih
  | floor _ hk hv ih => exact ih.trans ⟨fun h => absurd h hk, fun _ => .inr hv⟩

/-- The token that an entry holds: a HOLD's. -/
def heldBy (e : Nat × Membership) : Option Token := if e.2.role = .hold then some e.2.token else none

/-- No two holds of the entries share a token, no token is 0, and every one was issued before `n`. -/
def PoolTokensOk (p : Table Membership) (n : Token) : Prop :=
  (p.filterMap heldBy).Nodup ∧ ∀ t ∈ p.filterMap heldBy, t ≠ 0 ∧ (n ≠ 0 → t < n)

theorem tokensOk_iff (s : State) :
    TokensOk s ↔ Table.wf Config.poolSize s.dir.pool = true ∧ PoolTokensOk s.dir.pool s.dir.nextToken := Iff.rfl

/-! ### A table up to order: an item and the rest -/

section
variable {α : Type} {capacity : Nat} {t : Table α} {i : Nat}

theorem Table.free_of_get_none (hget : Table.get t i = none) : Table.free t i = t := by
  induction t with
  | nil => rfl
  | cons e t ih =>
    obtain ⟨k, y⟩ := e
    rw [Table.get_cons] at hget
    split at hget
    · cases hget
    · next hk =>
      have ht := ih hget
      simp only [Table.free] at ht ⊢
      rw [List.filter_cons_of_pos (by simpa using hk), ht]

/-- A read below every index finds nothing. -/
theorem Table.get_none_of_lt (hlt : ∀ e ∈ t, i < e.1) : Table.get t i = none := by
  cases h : Table.get t i with
  | none => rfl
  | some y => exact absurd (hlt _ (Table.mem_of_get h)) (Nat.lt_irrefl i)

/-- Up to order a write puts its item before the entries of the other indices. -/
theorem Table.put_perm (hwf : Table.wf capacity t = true) (i : Nat) (x : α) :
    (Table.put t i x).Perm ((i, x) :: Table.free t i) := by
  have hrise := ((Table.wf_iff capacity t).mp hwf).1
  clear hwf
  induction t with
  | nil => exact .refl _
  | cons e t ih =>
    obtain ⟨k, y⟩ := e
    rw [List.map_cons, List.pairwise_cons] at hrise
    have hbehind : ∀ e ∈ t, k < e.1 := fun e he => hrise.1 _ (List.mem_map_of_mem he)
    simp only [Table.put]
    split
    · next hlt =>
      have hnone : Table.get ((k, y) :: t) i = none := by
        refine Table.get_none_of_lt fun e he => ?_
        rcases List.mem_cons.mp he with rfl | he
        · exact hlt
        · exact Nat.lt_trans hlt (hbehind e he)
      rw [Table.free_of_get_none hnone]
    · split
      · next hk =>
        subst hk
        have hnone := Table.free_of_get_none (Table.get_none_of_lt hbehind)
        simp only [Table.free] at hnone ⊢
        rw [List.filter_cons_of_neg (by simp), hnone]
      · next hk =>
        have hfree : Table.free ((k, y) :: t) i = (k, y) :: Table.free t i :=
          List.filter_cons_of_pos (by simpa using hk)
        rw [hfree]
        exact ((ih hrise.2).cons (k, y)).trans (.swap ..)

/-- Up to order a table is the item read at an index and the entries of the other indices. -/
theorem Table.perm_of_get {y : α} (hwf : Table.wf capacity t = true) (hget : Table.get t i = some y) :
    t.Perm ((i, y) :: Table.free t i) := by
  have hput := Table.put_perm hwf i y
  have hsame : Table.put t i y = t := by
    have hrise := ((Table.wf_iff capacity t).mp hwf).1
    clear hwf hput
    induction t with
    | nil => simp at hget
    | cons e t ih =>
      obtain ⟨k, z⟩ := e
      rw [List.map_cons, List.pairwise_cons] at hrise
      rw [Table.get_cons] at hget
      simp only [Table.put]
      split at hget
      · next hk =>
        cases hget
        rw [if_neg (by omega), if_pos hk, hk]
      · next hk =>
        have hmem := hrise.1 _ (List.mem_map_of_mem (f := Prod.fst) (Table.mem_of_get hget))
        simp only at hmem
        rw [if_neg (by omega), if_neg hk, ih hget hrise.2]
  rwa [hsame] at hput

end

/-! ### The tokens of the entries under an edit -/

theorem PoolTokensOk.perm {p q : Table Membership} {n : Token} (hperm : p.Perm q) (h : PoolTokensOk p n) :
    PoolTokensOk q n := by
  have hheld := hperm.filterMap heldBy
  exact ⟨hheld.nodup_iff.mp h.1, fun t ht => h.2 t (hheld.mem_iff.mpr ht)⟩

theorem PoolTokensOk.sublist {p q : Table Membership} {n : Token} (hsub : q.Sublist p) (h : PoolTokensOk p n) :
    PoolTokensOk q n := by
  have hheld := hsub.filterMap heldBy
  exact ⟨h.1.sublist hheld, fun t ht => h.2 t (hheld.subset ht)⟩

/-- An item may stand for another that holds the same. -/
theorem PoolTokensOk.replace {p : Table Membership} {n : Token} {e e' : Nat × Membership} (hsame : heldBy e' = heldBy e)
    (h : PoolTokensOk (e :: p) n) : PoolTokensOk (e' :: p) n := by
  simp only [PoolTokensOk, List.filterMap_cons, hsame] at h ⊢
  exact h

theorem PoolTokensOk.cons_wait {p : Table Membership} {n : Token} {e : Nat × Membership} (hwait : e.2.role = .wait)
    (h : PoolTokensOk p n) : PoolTokensOk (e :: p) n := by
  have hnone : heldBy e = none := by simp [heldBy, hwait]
  simp only [PoolTokensOk, List.filterMap_cons, hnone]
  exact h

/-- An entry with the next token joins: every token held before is less. -/
theorem PoolTokensOk.cons_next {p : Table Membership} {n : Token} {e : Nat × Membership} (hn : n ≠ 0)
    (htoken : e.2.token = n) (h : PoolTokensOk p n) : PoolTokensOk (e :: p) (n + 1) := by
  have hold : ∀ t ∈ p.filterMap heldBy, t ≠ 0 ∧ (n + 1 ≠ 0 → t < n + 1) := fun t ht =>
    ⟨(h.2 t ht).1, fun hn' => BitVec.lt_trans ((h.2 t ht).2 hn) ((token_succ n).resolve_left hn')⟩
  cases hheld : heldBy e with
  | none =>
    simp only [PoolTokensOk, List.filterMap_cons, hheld]
    exact ⟨h.1, hold⟩
  | some t =>
    have ht : t = n := by
      simp only [heldBy] at hheld
      split at hheld
      · cases hheld; exact htoken
      · cases hheld
    subst ht
    simp only [PoolTokensOk, List.filterMap_cons, hheld, List.nodup_cons, List.mem_cons, forall_eq_or_imp]
    exact ⟨⟨fun hmem => BitVec.lt_irrefl t ((h.2 t hmem).2 hn), h.1⟩,
      ⟨hn, fun hn' => (token_succ t).resolve_left hn'⟩, hold⟩

/-- A floor no less than next token keeps the tokens below it (R26). -/
theorem PoolTokensOk.floor {p : Table Membership} {n v : Token} (hn : n ≠ 0) (hv : n ≤ v) (h : PoolTokensOk p n) :
    PoolTokensOk p v :=
  ⟨h.1, fun t ht => ⟨(h.2 t ht).1, fun _ => by have hlt := (h.2 t ht).2 hn; bv_omega⟩⟩

theorem PoolEdits.tokensOk {p q : Table Membership} {n k : Token} (h : PoolEdits p n q k)
    (hwf : Table.wf Config.poolSize p = true) (hok : PoolTokensOk p n) : PoolTokensOk q k := by
  induction h with
  | refl => exact hok
  | keep hq hget hrole htoken ih =>
    have hheld : ∀ i (m m' : Membership), m'.role = m.role → m'.token = m.token → heldBy (i, m') = heldBy (i, m) := by
      intro i m m' hr ht; simp only [heldBy, hr, ht]
    exact ((ih.perm (Table.perm_of_get (hq.wf hwf) hget)).replace (hheld _ _ _ hrole htoken)).perm
      (Table.put_perm (hq.wf hwf) _ _).symm
  | wait hq hget _ hrole ih =>
    have hfree := Table.free_of_get_none hget
    exact (PoolTokensOk.cons_wait hrole (hfree.symm ▸ ih)).perm (Table.put_perm (hq.wf hwf) _ _).symm
  | grant hq _ hk htoken ih =>
    exact (PoolTokensOk.cons_next hk htoken (ih.sublist List.filter_sublist)).perm
      (Table.put_perm (hq.wf hwf) _ _).symm
  | free i _ ih => exact ih.sublist List.filter_sublist
  | clear _ ih => exact ih.sublist (List.nil_sublist _)
  | floor _ hk hv ih => exact ih.floor hk hv

/-! ### The edits of the deadline entries (R65 to R69, R74) -/

/-- `DeadlineEdits now d e`: at the time `now` the Deadline Unit comes from `d` to `e` by entries registered no further
ahead than a deadline reaches, entries removed, and due entries that join the expiry queue. -/
inductive DeadlineEdits (now : Time) (d : DeadlineUnit) : DeadlineUnit → Prop
  | refl : DeadlineEdits now d d
  | register {e : DeadlineUnit} (x : Deadline) : DeadlineEdits now d e → remaining now x.due ≤ 65536 →
      DeadlineEdits now d
        { list := insertDeadline now x (e.list.filter (fun y => decide (y.index ≠ x.index)))
          expiry := e.expiry.filter (fun y => decide (y.index ≠ x.index)) }
  | remove {e : DeadlineUnit} {list expiry : List Deadline} : DeadlineEdits now d e → list.Sublist e.list →
      expiry.Sublist e.expiry → DeadlineEdits now d { list := list, expiry := expiry }
  | fall {e : DeadlineUnit} {out stay : List Deadline} : DeadlineEdits now d e → e.list = out ++ stay →
      DeadlineEdits now d { list := stay, expiry := e.expiry ++ out }

theorem DeadlineEdits.trans {now : Time} {d e f : DeadlineUnit} (h : DeadlineEdits now d e)
    (h' : DeadlineEdits now e f) : DeadlineEdits now d f := by
  induction h' with
  | refl => exact h
  | register x _ hx ih => exact ih.register x hx
  | remove _ hlist hexpiry ih => exact ih.remove hlist hexpiry
  | fall _ hsplit ih => exact ih.fall hsplit

/-- At most one entry for any pool index, and the list in the order of the time remaining at `now`. -/
def DeadlineOrder (now : Time) (d : DeadlineUnit) : Prop :=
  ((d.list ++ d.expiry).map Deadline.index).Nodup ∧ (∀ e ∈ d.list, remaining now e.due ≤ 65536) ∧
    d.list.Pairwise (fun x y => remaining now x.due ≤ remaining now y.due)

theorem deadlinesOk_iff (s : State) : DeadlinesOk s ↔ DeadlineOrder s.clock.ms s.deadlines := Iff.rfl

theorem insertDeadline_perm (now : Time) (x : Deadline) (l : List Deadline) : (insertDeadline now x l).Perm (x :: l) := by
  induction l with
  | nil => exact .refl _
  | cons y l ih =>
    simp only [insertDeadline]
    split
    · exact (ih.cons y).trans (.swap ..)
    · exact .refl _

theorem insertDeadline_pairwise (now : Time) (x : Deadline) {l : List Deadline}
    (h : l.Pairwise (fun x y => remaining now x.due ≤ remaining now y.due)) :
    (insertDeadline now x l).Pairwise (fun x y => remaining now x.due ≤ remaining now y.due) := by
  induction l with
  | nil => exact List.pairwise_singleton ..
  | cons y l ih =>
    rw [List.pairwise_cons] at h
    simp only [insertDeadline]
    split
    · next hle =>
      refine List.pairwise_cons.mpr ⟨fun z hz => ?_, ih h.2⟩
      rcases List.mem_cons.mp ((insertDeadline_perm now x l).mem_iff.mp hz) with rfl | hz
      · exact hle
      · exact h.1 z hz
    · next hlt =>
      refine List.pairwise_cons.mpr ⟨fun z hz => ?_, List.pairwise_cons.mpr h⟩
      rcases List.mem_cons.mp hz with rfl | hz
      · omega
      · exact Nat.le_trans (by omega) (h.1 z hz)

theorem DeadlineOrder.remove {now : Time} {d : DeadlineUnit} {list expiry : List Deadline} (h : DeadlineOrder now d)
    (hlist : list.Sublist d.list) (hexpiry : expiry.Sublist d.expiry) :
    DeadlineOrder now { list := list, expiry := expiry } :=
  ⟨h.1.sublist ((hlist.append hexpiry).map _), fun e he => h.2.1 e (hlist.subset he), h.2.2.sublist hlist⟩

theorem DeadlineOrder.register {now : Time} {d : DeadlineUnit} {x : Deadline} (h : DeadlineOrder now d)
    (hx : remaining now x.due ≤ 65536) (hfresh : ∀ y ∈ d.list ++ d.expiry, y.index ≠ x.index) :
    DeadlineOrder now { list := insertDeadline now x d.list, expiry := d.expiry } := by
  have hperm := insertDeadline_perm now x d.list
  refine ⟨?_, fun e he => ?_, insertDeadline_pairwise now x h.2.2⟩
  · have hall := (hperm.append_right d.expiry).map Deadline.index
    refine hall.nodup_iff.mpr ?_
    rw [List.cons_append, List.map_cons, List.nodup_cons]
    refine ⟨fun hmem => ?_, h.1⟩
    obtain ⟨y, hy, hindex⟩ := List.mem_map.mp hmem
    exact hfresh y hy hindex
  · rcases List.mem_cons.mp (hperm.mem_iff.mp he) with rfl | he
    · exact hx
    · exact h.2.1 e he

theorem DeadlineEdits.order {now : Time} {d e : DeadlineUnit} (h : DeadlineEdits now d e) (hok : DeadlineOrder now d) :
    DeadlineOrder now e := by
  induction h with
  | refl => exact hok
  | register x _ hx ih =>
    refine (ih.remove List.filter_sublist List.filter_sublist).register hx fun y hy => ?_
    simp only [← List.filter_append, List.mem_filter] at hy
    exact of_decide_eq_true hy.2
  | remove _ hlist hexpiry ih => exact ih.remove hlist hexpiry
  | @fall e out stay _ hsplit ih =>
    obtain ⟨hnodup, hbound, hsorted⟩ := ih
    rw [hsplit] at hnodup hbound hsorted
    refine ⟨?_, fun e he => hbound e (List.mem_append_right out he), (List.pairwise_append.mp hsorted).2.1⟩
    have hperm : (stay ++ (e.expiry ++ out)).Perm (out ++ stay ++ e.expiry) := by
      rw [← List.append_assoc, List.append_assoc out]
      exact List.perm_append_comm
    exact (hperm.map Deadline.index).nodup_iff.mpr hnodup

/-! ### The edits of a state -/

/-- What leads from `s` to `t` keeps the slots canonical, and edits entries and deadlines as above. -/
structure Edits (s t : State) : Prop where
  clock : t.clock = s.clock
  slots : Table.wf Config.slotCount s.dir.slots = true → Table.wf Config.slotCount t.dir.slots = true
  pool : PoolEdits s.dir.pool s.dir.nextToken t.dir.pool t.dir.nextToken
  deadlines : DeadlineEdits s.clock.ms s.deadlines t.deadlines

theorem Edits.trans {s t u : State} (h : Edits s t) (h' : Edits t u) : Edits s u where
  clock := h'.clock.trans h.clock
  slots := h'.slots ∘ h.slots
  pool := h.pool.trans h'.pool
  deadlines := h.deadlines.trans (h.clock ▸ h'.deadlines)

/-- What leaves slots, entries, next token and deadlines as they are is an edit. -/
theorem Edits.of_eq {s t : State} (hclock : t.clock = s.clock) (hslots : t.dir.slots = s.dir.slots)
    (hpool : t.dir.pool = s.dir.pool) (htoken : t.dir.nextToken = s.dir.nextToken)
    (hdeadlines : t.deadlines = s.deadlines) : Edits s t where
  clock := hclock
  slots h := hslots ▸ h
  pool := by rw [hpool, htoken]; exact .refl
  deadlines := by rw [hdeadlines]; exact .refl

theorem Edits.refl (s : State) : Edits s s := .of_eq rfl rfl rfl rfl rfl

theorem ModeratorFrame.edits {s t : State} (h : ModeratorFrame s t) : Edits s t :=
  .of_eq h.clock (by rw [h.dir]) (by rw [h.dir]) (by rw [h.dir]) h.deadlines

/-- A LIVE record stands in its slot. -/
theorem State.slot_of_record {s : State} {h : Nat} {r : Record} (hr : s.record h = some r) :
    s.slot h = some (.live r) := by
  simp only [State.record] at hr
  split at hr
  · next r' hslot => cases hr; exact hslot
  · cases hr

theorem State.record_of_slot {s : State} {h : Nat} {r : Record} (hslot : s.slot h = some (.live r)) :
    s.record h = some r := by
  simp only [State.record, hslot]

section
variable (s : State)

/-! ### The writes -/

theorem State.putCounts_edits (a : AgentId) (x : Counts) : Edits s (s.putCounts a x) := .of_eq rfl rfl rfl rfl rfl

theorem State.putSlot_edits {h : Nat} (x : Slot) (hused : s.slot h ≠ none ∨ h < Config.slotCount) :
    Edits s (s.putSlot h x) where
  clock := rfl
  slots hwf := Table.wf_put_of_used x hwf hused
  pool := .refl
  deadlines := .refl

theorem State.freeSlot_edits (h : Nat) : Edits s (s.freeSlot h) where
  clock := rfl
  slots hwf := Table.wf_free h hwf
  pool := .refl
  deadlines := .refl

theorem State.editRecord_edits (h : Nat) (f : Record → Record) : Edits s (s.editRecord h f) := by
  simp only [State.editRecord]
  split
  · next r hr => exact s.putSlot_edits _ (.inl (by simp [State.slot_of_record hr]))
  · exact .refl s

variable {s} in
theorem State.putMember_edits {i : Nat} {m m' : Membership} (hm : s.member i = some m)
    (hrole : m'.role = m.role := by rfl) (htoken : m'.token = m.token := by rfl) : Edits s (s.putMember i m') where
  clock := rfl
  slots := id
  pool := .keep .refl hm hrole htoken
  deadlines := .refl

theorem State.editMember_edits (i : Nat) {f : Membership → Membership}
    (hrole : ∀ m, (f m).role = m.role := by intro; rfl) (htoken : ∀ m, (f m).token = m.token := by intro; rfl) : Edits s (s.editMember i f) := by
  simp only [State.editMember]
  split
  · next m hm => exact State.putMember_edits hm (hrole m) (htoken m)
  · exact .refl s

theorem State.freeMember_edits (i : Nat) : Edits s (s.freeMember i) where
  clock := rfl
  slots := id
  pool := .free i .refl
  deadlines := .refl

/-! ### Deadlines -/

theorem State.setDeadlines_edits {list expiry : List Deadline} (hlist : list.Sublist s.deadlines.list)
    (hexpiry : expiry.Sublist s.deadlines.expiry) :
    Edits s { s with deadlines := { list := list, expiry := expiry } } where
  clock := rfl
  slots := id
  pool := .refl
  deadlines := .remove .refl hlist hexpiry

theorem State.removeDeadline_edits (i : Nat) : Edits s (s.removeDeadline i) :=
  s.setDeadlines_edits List.filter_sublist List.filter_sublist

theorem State.removeAgentDeadlines_edits (a : AgentId) : Edits s (s.removeAgentDeadlines a) :=
  s.setDeadlines_edits List.filter_sublist List.filter_sublist

theorem State.withdrawDeadline_edits (i : Nat) : Edits s (s.withdrawDeadline i) := by
  simp only [State.withdrawDeadline]
  repeat' split
  · exact .refl s
  · next m hm _ =>
    exact (State.putMember_edits hm).trans (State.setDeadlines_edits _ List.filter_sublist (List.Sublist.refl _))
  · exact .refl s

/-- A deadline of at most 65535 ms is due at most 65536 ms ahead (R66). -/
theorem remaining_dueAfter (now : Time) (ms : BitVec 16) : remaining now (dueAfter now (ms.setWidth 32)) ≤ 65536 := by
  have hms := ms.isLt
  have hsub : now + ms.setWidth 32 + 1 - now = ms.setWidth 32 + 1 := by bv_omega
  rw [remaining, dueAfter, hsub]
  bv_omega

theorem State.registerDeadline_edits (i : Nat) (kind : DeadlineKind) (ms : BitVec 16) :
    Edits s (s.registerDeadline i kind ms) := by
  simp only [State.registerDeadline]
  repeat' split
  · exact .refl s
  · exact .refl s
  · next m hm =>
    exact
      { clock := rfl
        slots := id
        pool := .keep .refl hm rfl rfl
        deadlines := .register ⟨i, m.agent, m.stamp, kind, _⟩ .refl (remaining_dueAfter s.clock.ms ms) }

/-! ### Memberships -/

/-- A new wait takes a free entry. -/
theorem State.allocate_wait_edits {i : Nat} {m : Membership} (hfree : s.member i = none) (hi : i < Config.poolSize)
    (hrole : m.role = .wait) : Edits s (s.allocate i m) where
  clock := rfl
  slots := id
  pool := .wait .refl hfree hi hrole
  deadlines := .refl

/-- A new hold takes a free entry and the next token. -/
theorem State.allocate_advanceToken_edits {i : Nat} {m : Membership} (hi : i < Config.poolSize)
    (hpos : s.dir.nextToken ≠ 0) (htoken : m.token = s.dir.nextToken) : Edits s (s.allocate i m).advanceToken where
  clock := rfl
  slots := id
  pool := .grant .refl (.inr hi) hpos htoken
  deadlines := .refl

theorem State.freeEntry_edits (i : Nat) (m : Membership) : Edits s (s.freeEntry i m) :=
  (s.freeMember_edits i).trans (State.putCounts_edits _ _ _)

theorem State.clearUpgrade_edits (h i : Nat) : Edits s (s.clearUpgrade h i) := by
  simp only [State.clearUpgrade]
  split
  · exact .refl s
  · exact (((s.withdrawDeadline_edits i).trans (State.editMember_edits _ i)).trans
      (State.editRecord_edits _ h _)).trans (State.putCounts_edits _ _ _)

theorem State.removeHold_edits (h i : Nat) : Edits s (s.removeHold h i) := by
  simp only [State.removeHold]
  split
  · exact .refl s
  · split
    · exact ((s.editRecord_edits h _).trans (State.clearUpgrade_edits _ h i)).trans (State.freeEntry_edits _ i _)
    · exact (s.editRecord_edits h _).trans (State.freeEntry_edits _ i _)

theorem State.removeWait_edits (h i : Nat) : Edits s (s.removeWait h i) := by
  simp only [State.removeWait]
  split
  · exact .refl s
  · exact ((s.editRecord_edits h _).trans (State.withdrawDeadline_edits _ i)).trans (State.freeEntry_edits _ i _)

theorem State.freeDetached_edits (i : Nat) (m : Membership) : Edits s (s.freeDetached i m) := by
  simp only [State.freeDetached]
  split
  · exact ((s.withdrawDeadline_edits i).trans (State.freeEntry_edits _ i m)).trans (State.putCounts_edits _ _ _)
  · exact (s.withdrawDeadline_edits i).trans (State.freeEntry_edits _ i m)

theorem State.retireIfEmpty_edits (h : Nat) : Edits s (s.retireIfEmpty h) := by
  simp only [State.retireIfEmpty]
  repeat' split
  · exact s.freeSlot_edits h
  · exact .refl s
  · exact .refl s

end

/-! ### Grants -/

section
variable {s : State}

theorem State.makeExclusive_edits {h i : Nat} (hm : s.member i ≠ none) (hpos : s.dir.nextToken ≠ 0) :
    Edits s (s.makeExclusive h i) := by
  obtain ⟨m, hm⟩ := Option.ne_none_iff_exists'.mp hm
  refine (s.editRecord_edits h (fun r => { r with mode := .exclusive })).trans ?_
  have hm' : (s.editRecord h (fun r => { r with mode := .exclusive })).member i = some m := by
    rw [State.editRecord_member, hm]
  have htoken : (s.editRecord h (fun r => { r with mode := .exclusive })).dir.nextToken = s.dir.nextToken := by
    simp only [State.editRecord]; split <;> rfl
  simp only [State.makeExclusive, State.editMember, hm']
  exact
    { clock := rfl
      slots := id
      pool := .grant .refl (.inl (by simp only [State.member] at hm'; simp [hm'])) (ne_of_eq_of_ne htoken hpos) htoken.symm
      deadlines := .refl }

theorem State.clearUpgrade_member_isSome {h i j : Nat} (hm : s.member j ≠ none) :
    (s.clearUpgrade h i).member j ≠ none := by
  by_cases hj : j = i
  · subst hj
    obtain ⟨m, hm⟩ := Option.ne_none_iff_exists'.mp hm
    have counts (t : State) (f : Counts → Counts) : (t.editCounts m.agent f).member j = t.member j := rfl
    have edit (t : State) (f : Membership → Membership) (ht : t.member j ≠ none) : (t.editMember j f).member j ≠ none := by
      simp only [State.editMember]
      split
      · simp [State.member]
      · exact ht
    simp only [State.clearUpgrade, hm]
    rw [counts, State.editRecord_member]
    refine edit _ _ ?_
    simp only [State.withdrawDeadline, hm]
    split
    · simp [State.member]
    · simp [hm]
  · rwa [State.clearUpgrade_member_of_ne hj]

end

end Sys2Proof.Machine
end

section
/-! SUPPORT. The moderator's operations keep what a moderator's state says of its queue, its digest in flight and its
overflow mark, beside a given session context (R112 to R118, Table 7-2). -/

namespace Sys2Proof.Machine

/-! ### What an operation leaves in the moderator -/

section
variable (s : State) (a : AgentId)

@[simp] theorem State.handDigest_moderator (d : Digest) (b : AgentId) :
    (s.handDigest a d).moderator b = s.moderator b := by
  simp only [State.handDigest]
  split <;> rfl

/-- The moderator after an emission (R118). -/
def Moderator.afterEmission (m : Moderator) (due : Time) : Moderator :=
  { m with
    pending := m.pending.drop Config.digestSize
    inFlight := some m.digest
    overflow := if m.overflow = .unreported then .reported else m.overflow
    state := .outstanding
    holdDue := none
    retransmitCount := 0
    retransmitDue := some due }

@[simp] theorem State.emit_moderator_self :
    (s.emit a).moderator a =
      (s.moderator a).afterEmission (dueAfter s.clock.ms s.mgmt.config.retransmitInterval) := by
  simp only [State.emit, State.handDigest_moderator, State.count_moderator, State.putModerator_moderator_self]
  rfl

/-- A DOWN link keeps its digest place empty: nothing is handed to it (R144). -/
theorem State.handDigest_down (d : Digest) (b : AgentId) (hdown : (s.port b).linkUp = false) :
    (s.handDigest a d).port b = s.port b := by
  simp only [State.handDigest]
  split
  · next hup =>
    have hne : b ≠ a := by rintro rfl; rw [hdown] at hup; cases hup
    simp [State.putPort_port, hne]
  · rfl

end

/-! ### A moderator in COLLECTING -/

/-- A moderator that has come to COLLECTING, or stays there, before its check of the emission condition: its overflow mark
may be unreported. -/
structure CollectingOk (c : Session) (m : Moderator) : Prop where
  accepting : m.accepting = true
  session : c.state = .active
  epoch : m.epoch = c.epoch
  state : m.state = .collecting
  pending : m.pending ≠ []
  bound : m.pending.length ≤ Config.notificationSize
  inFlight : m.inFlight = none
  overflow : m.overflow ≠ .reported
  retransmitDue : m.retransmitDue = none
  retransmitCount : m.retransmitCount ≤ 7

section
variable {c : Session} {m : Moderator}

/-- A moderator that has nothing in flight has reported no overflow (R114). -/
theorem ModeratorOk.overflow_of_inFlight_none (hok : ModeratorOk c m) (hnone : m.inFlight = none) :
    m.overflow ≠ .reported := by
  obtain ⟨-, -, -, -, -, -, ⟨-, hreported⟩, -⟩ := hok
  intro h
  have := hreported h
  simp [hnone] at this

theorem ModeratorOk.collectingOk (hok : ModeratorOk c m) (hstate : m.state = .collecting) : CollectingOk c m := by
  have hover := hok.overflow_of_inFlight_none
  obtain ⟨haccept, hstall, hepoch, hclosed, ⟨-, hcollect, -⟩, -, -, hbound, -, hretransmit, hcount⟩ := hok
  obtain ⟨hpending, hflight⟩ := hcollect hstate
  have haccepting : m.accepting = true := by
    by_contra h
    have := (hclosed (by simpa using h)).1
    simp [hstate] at this
  have hactive : c.state = .active := (haccept.mp haccepting).resolve_right fun h => by
    have := hstall.mpr h
    simp [hstate] at this
  have hdue : m.retransmitDue = none := by
    by_contra h
    have := hretransmit.mp (by simpa [Option.isSome_iff_ne_none] using h)
    simp [hstate] at this
  exact ⟨haccepting, hactive, hepoch haccepting, hstate, hpending,
    by simpa [Moderator.occupied, Moderator.inFlightCount, hflight] using hbound, hflight, hover hflight, hdue, hcount⟩

/-- Without an unreported overflow, a moderator in COLLECTING may stay there. -/
theorem CollectingOk.moderatorOk (h : CollectingOk c m) (hover : m.overflow ≠ .unreported) : ModeratorOk c m := by
  obtain ⟨haccepting, hactive, hepoch, hstate, hpending, hbound, hflight, hreported, hdue, hcount⟩ := h
  refine ⟨by simp [haccepting, hactive], by simp [hstate, hactive], fun _ => hepoch, by simp [haccepting],
    ⟨by simp [hstate], fun _ => ⟨hpending, hflight⟩, by simp [hstate]⟩, by simp [DigestOk, hflight],
    ⟨fun h => absurd h hover, fun h => absurd h hreported⟩, ?_, fun _ => hstate, by simp [hdue, hstate], hcount⟩
  simpa [Moderator.occupied, Moderator.inFlightCount, hflight] using hbound

/-- An emission takes 1 to 16 entries and carries an overflow mark with it (R112, R114, R118). -/
theorem CollectingOk.afterEmission (h : CollectingOk c m) (due : Time) : ModeratorOk c (m.afterEmission due) := by
  obtain ⟨haccepting, hactive, hepoch, hstate, hpending, hbound, hflight, hreported, -, -⟩ := h
  have hlength : 0 < m.pending.length := List.length_pos_iff.mpr hpending
  refine ⟨by simp [Moderator.afterEmission, haccepting, hactive], by simp [Moderator.afterEmission, hactive],
    fun _ => hepoch, by simp [Moderator.afterEmission, haccepting], ⟨?_, ?_, ?_⟩, ?digest, ⟨?unreported, ?reported⟩,
    ?occupied, by simp [Moderator.afterEmission], by simp [Moderator.afterEmission], by simp [Moderator.afterEmission]⟩
  · simp [Moderator.afterEmission]
  · simp [Moderator.afterEmission]
  · simp [Moderator.afterEmission]
  case digest =>
    simp only [DigestOk, Moderator.afterEmission, Option.mem_some_iff, forall_eq', Moderator.digest, List.length_take,
      Config.digestSize]
    exact ⟨by omega, by omega, trivial, trivial, trivial⟩
  case unreported =>
    simp only [Moderator.afterEmission]
    split
    · simp
    · next h => exact fun h' => absurd h' h
  case reported =>
    simp only [Moderator.afterEmission]
    split
    · next h => simp [Moderator.digest, h]
    · exact fun h' => absurd h' hreported
  case occupied =>
    simp only [Moderator.afterEmission, Moderator.occupied, Moderator.inFlightCount, Moderator.digest,
      List.length_drop, List.length_take, Config.digestSize, Config.notificationSize] at hbound ⊢
    omega

end

/-! ### The operations on one moderator -/

section
variable {s : State} {a : AgentId} {c : Session}

/-- The check of the emission condition leaves no overflow unreported. -/
theorem State.checkEmission_moderatorOk (h : CollectingOk c (s.moderator a)) :
    ModeratorOk c ((s.checkEmission a).moderator a) := by
  simp only [State.checkEmission]
  split
  · rw [State.emit_moderator_self]
    exact h.afterEmission _
  · next hnot =>
    refine h.moderatorOk fun hover => hnot ?_
    simp [emissionCondition, hover]

/-- The entry into COLLECTING of a moderator that has entries and nothing in flight. -/
theorem State.enterCollecting_moderatorOk (haccepting : (s.moderator a).accepting = true) (hactive : c.state = .active)
    (hepoch : (s.moderator a).epoch = c.epoch) (hpending : (s.moderator a).pending ≠ [])
    (hbound : (s.moderator a).pending.length ≤ Config.notificationSize) (hflight : (s.moderator a).inFlight = none)
    (hover : (s.moderator a).overflow ≠ .reported) (hdue : (s.moderator a).retransmitDue = none)
    (hcount : (s.moderator a).retransmitCount ≤ 7) : ModeratorOk c ((s.enterCollecting a).moderator a) := by
  refine State.checkEmission_moderatorOk ?_
  rw [State.putModerator_moderator_self]
  exact ⟨haccepting, hactive, hepoch, rfl, hpending, hbound, hflight, hover, hdue, hcount⟩

/-- An agent whose moderator accepts and is not STALLED is ACTIVE. -/
theorem ModeratorOk.active {m : Moderator} (hok : ModeratorOk c m) (haccepting : m.accepting = true)
    (hstate : m.state ≠ .stalled) : c.state = .active :=
  (hok.1.mp haccepting).resolve_right fun h => hstate (hok.2.1.mpr h)

theorem ModeratorOk.retransmitDue_none {m : Moderator} (hok : ModeratorOk c m) (hstate : m.state ≠ .outstanding) :
    m.retransmitDue = none := by
  obtain ⟨-, -, -, -, -, -, -, -, -, hretransmit, -⟩ := hok
  exact Option.not_isSome_iff_eq_none.mp (mt hretransmit.mp hstate)

/-- An entry joins a queue that has a free place (R113). -/
theorem ModeratorOk.join {m : Moderator} (hok : ModeratorOk c m) (n : Notification) (hstate : m.state ≠ .empty)
    (hroom : m.occupied < Config.notificationSize) : ModeratorOk c { m with pending := m.pending ++ [n] } := by
  obtain ⟨haccept, hstall, hepoch, hclosed, ⟨-, hcollect, houtstanding⟩, hdigest, ⟨hunreported, hreported⟩, -, hhold,
    hretransmit, hcount⟩ := hok
  refine ⟨haccept, hstall, hepoch, hclosed, ⟨fun h => absurd h hstate, fun h => ⟨by simp, (hcollect h).2⟩, houtstanding⟩,
    hdigest, ⟨fun h => ⟨by simp, (hunreported h).2⟩, hreported⟩, ?_, hhold, hretransmit, hcount⟩
  simp only [Moderator.occupied, Moderator.inFlightCount, List.length_append, List.length_singleton] at hroom ⊢
  omega

/-- A full queue with a digest in flight holds pending entries, since a digest has at most 16 (R112, R118). -/
theorem ModeratorOk.pending_of_full {m : Moderator} (hok : ModeratorOk c m)
    (hfull : ¬ m.occupied < Config.notificationSize) : m.pending ≠ [] := by
  obtain ⟨-, -, -, -, -, hdigest, -⟩ := hok
  intro hnil
  cases hflight : m.inFlight with
  | none => simp [Moderator.occupied, Moderator.inFlightCount, hflight, hnil] at hfull
  | some d =>
    have hsize := (hdigest d hflight).2.1
    simp only [Moderator.occupied, Moderator.inFlightCount, hflight, hnil, List.length_nil, Config.digestSize,
      Config.notificationSize] at hfull hsize
    omega

/-- A notification lost to a full queue leaves its mark (R114). -/
theorem ModeratorOk.lose {m : Moderator} (hok : ModeratorOk c m) (haccepting : m.accepting = true)
    (hstate : m.state = .outstanding ∨ m.state = .stalled) (hfull : ¬ m.occupied < Config.notificationSize) :
    ModeratorOk c { m with overflow := .unreported } := by
  have hpending := hok.pending_of_full hfull
  obtain ⟨haccept, hstall, hepoch, -, hstates, hdigest, -, hbound, hhold, hretransmit, hcount⟩ := hok
  exact ⟨haccept, hstall, hepoch, fun h => by simp [haccepting] at h, hstates, hdigest,
    ⟨fun _ => ⟨hpending, hstate⟩, fun h => by cases h⟩, hbound, hhold, hretransmit, hcount⟩

/-- The first entry of an EMPTY moderator brings it to COLLECTING (R116). -/
theorem State.notify_moderatorOk_of_empty (n : Notification) (hok : ModeratorOk c (s.moderator a))
    (haccepting : (s.moderator a).accepting = true) (hstate : (s.moderator a).state = .empty) :
    ModeratorOk c
      (((s.putModerator a { s.moderator a with pending := (s.moderator a).pending ++ [n] }).enterCollecting a).moderator
        a) := by
  have hactive := hok.active haccepting (by simp [hstate])
  have hdue := hok.retransmitDue_none (by simp [hstate])
  have hover := hok.overflow_of_inFlight_none
  obtain ⟨-, -, hepoch, -, ⟨hempty, -⟩, -, -, -, -, -, hcount⟩ := hok
  obtain ⟨hpending, hflight⟩ := hempty hstate
  refine State.enterCollecting_moderatorOk ?_ hactive ?_ ?_ ?_ ?_ ?_ ?_ ?_ <;> rw [State.putModerator_moderator_self]
  · exact haccepting
  · exact hepoch haccepting
  · simp
  · simp [hpending]
  · exact hflight
  · exact hover hflight
  · exact hdue
  · exact hcount

theorem State.notify_moderatorOk_self (n : Notification) (hok : ModeratorOk c (s.moderator a)) :
    ModeratorOk c ((s.notify a n).moderator a) := by
  simp only [State.notify]
  split
  case isFalse => exact hok
  case isTrue haccepting =>
    split
    case isTrue hroom =>
      split
      case h_1 hstate => exact State.notify_moderatorOk_of_empty n hok haccepting hstate
      case h_2 hstate =>
        refine State.checkEmission_moderatorOk ?_
        rw [State.putModerator_moderator_self]
        exact (hok.join n (by simp [hstate]) hroom).collectingOk hstate
      case h_3 hstate =>
        rw [State.putModerator_moderator_self]
        exact hok.join n (by simp [hstate]) hroom
      case h_4 hstate =>
        rw [State.putModerator_moderator_self]
        exact hok.join n (by simp [hstate]) hroom
    case isFalse hfull =>
      split
      case h_1 hstate =>
        refine State.checkEmission_moderatorOk ?_
        rw [State.putModerator_moderator_self]
        exact { hok.collectingOk hstate with overflow := fun h => by cases h }
      case h_2 hstate =>
        have hpending := hok.pending_of_full hfull
        obtain ⟨-, -, -, -, ⟨hempty, -⟩, -⟩ := hok
        exact absurd (hempty hstate).1 hpending
      case h_3 hstate =>
        rw [State.putModerator_moderator_self]
        exact hok.lose haccepting (.inl hstate) hfull
      case h_4 hstate =>
        rw [State.putModerator_moderator_self]
        exact hok.lose haccepting (.inr hstate) hfull

end

/-! ### What telling an agent keeps -/

/-- What leads from `s` to `t` keeps every moderator in agreement with any session context it agrees with, and puts no
digest on a port whose link is DOWN. -/
structure Tells (s t : State) : Prop where
  moderator : ∀ b c, ModeratorOk c (s.moderator b) → ModeratorOk c (t.moderator b)
  digestPlace : ∀ b, (s.port b).linkUp = false → (t.port b).digestPlace = (s.port b).digestPlace

theorem Tells.trans {s t u : State} (h : Tells s t) (h' : Tells t u) (hup : ∀ b, (t.port b).linkUp = (s.port b).linkUp) :
    Tells s u where
  moderator b c hc := h'.moderator b c (h.moderator b c hc)
  digestPlace b hb := (h'.digestPlace b ((hup b).trans hb)).trans (h.digestPlace b hb)

theorem Tells.of_eq {s t : State} (hmoderators : t.moderators = s.moderators) (hports : t.ports = s.ports) :
    Tells s t where
  moderator b c hc := by simpa only [State.moderator, hmoderators] using hc
  digestPlace b _ := by simp only [State.port, hports]

section
variable (s : State) (a : AgentId)

theorem State.emit_down (b : AgentId) (hdown : (s.port b).linkUp = false) : (s.emit a).port b = s.port b :=
  State.handDigest_down _ a _ b hdown

theorem State.checkEmission_down (b : AgentId) (hdown : (s.port b).linkUp = false) :
    (s.checkEmission a).port b = s.port b := by
  simp only [State.checkEmission]
  split
  · exact s.emit_down a b hdown
  · rfl

theorem State.enterCollecting_down (b : AgentId) (hdown : (s.port b).linkUp = false) :
    (s.enterCollecting a).port b = s.port b :=
  State.checkEmission_down _ a b hdown

theorem State.notify_down (n : Notification) (b : AgentId) (hdown : (s.port b).linkUp = false) :
    (s.notify a n).port b = s.port b := by
  simp only [State.notify]
  repeat' split
  · exact State.enterCollecting_down _ a b hdown
  · exact State.checkEmission_down _ a b hdown
  · rfl
  · rfl
  · exact State.checkEmission_down _ a b hdown
  all_goals rfl

theorem State.notify_tells (n : Notification) : Tells s (s.notify a n) where
  moderator b c hc := by
    by_cases hb : b = a
    · subst hb; exact State.notify_moderatorOk_self n hc
    · rwa [s.notify_one a n b hb]
  digestPlace b hdown := by rw [s.notify_down a n b hdown]

end

end Sys2Proof.Machine
end

section
/-! SUPPORT. The work of the engine on records, memberships and deadlines: what an operation of a request, of an expiry, of
a sweep or of a management command leaves, sound or faulty. -/

namespace Sys2Proof.Machine

open Sys2Proof.Expect

/-! ### Work of the engine -/

/-- What leads from `s` to `t` is work on records, memberships and deadlines, with the notifications that it makes. -/
structure EngineWork (s t : State) : Prop extends EngineFrame s t, Edits s t, Tells s t

theorem EngineFrame.linkUp {s t : State} (h : EngineFrame s t) (b : AgentId) : (t.port b).linkUp = (s.port b).linkUp := by
  rw [h.port b]

theorem EngineWork.trans {s t u : State} (h : EngineWork s t) (h' : EngineWork t u) : EngineWork s u :=
  { h.toEngineFrame.trans h'.toEngineFrame, h.toEdits.trans h'.toEdits,
    h.toTells.trans h'.toTells h.toEngineFrame.linkUp with }

theorem QuietFrame.work {s t : State} (h : QuietFrame s t) (hedits : Edits s t) : EngineWork s t :=
  { h.toEngineFrame, hedits, Tells.of_eq h.moderators h.ports with }

theorem ModeratorFrame.work {s t : State} (h : ModeratorFrame s t) (htells : Tells s t) : EngineWork s t :=
  { h.engine, h.edits, htells with }

section
variable (s : State)

theorem EngineWork.refl : EngineWork s s := (QuietFrame.refl s).work (.refl s)

theorem State.notify_work (a : AgentId) (n : Notification) : EngineWork s (s.notify a n) :=
  (s.notify_frame a n).work (s.notify_tells a n)

theorem State.countAgent_work (a : AgentId) (k : AgentStat) : EngineWork s (s.count (.agent a k)) :=
  (s.countAgent_frame a k).work (.of_eq rfl rfl)

theorem State.editRecord_work (h : Nat) (f : Record → Record) : EngineWork s (s.editRecord h f) :=
  (s.editRecord_quiet h f).work (s.editRecord_edits h f)

theorem State.putCounts_work (a : AgentId) (x : Counts) : EngineWork s (s.putCounts a x) :=
  (s.putCounts_quiet a x).work (s.putCounts_edits a x)

theorem State.clearUpgrade_work (h i : Nat) : EngineWork s (s.clearUpgrade h i) :=
  (s.clearUpgrade_quiet h i).work (s.clearUpgrade_edits h i)

theorem State.removeHold_work (h i : Nat) : EngineWork s (s.removeHold h i) :=
  (s.removeHold_quiet h i).work (s.removeHold_edits h i)

theorem State.removeWait_work (h i : Nat) : EngineWork s (s.removeWait h i) :=
  (s.removeWait_quiet h i).work (s.removeWait_edits h i)

theorem State.freeDetached_work (i : Nat) (m : Membership) : EngineWork s (s.freeDetached i m) :=
  (s.freeDetached_quiet i m).work (s.freeDetached_edits i m)

theorem State.retireIfEmpty_work (h : Nat) : EngineWork s (s.retireIfEmpty h) :=
  (s.retireIfEmpty_quiet h).work (s.retireIfEmpty_edits h)

theorem State.registerDeadline_work (i : Nat) (k : DeadlineKind) (d : BitVec 16) :
    EngineWork s (s.registerDeadline i k d) :=
  (s.registerDeadline_quiet i k d).work (s.registerDeadline_edits i k d)

theorem State.removeDeadline_work (i : Nat) : EngineWork s (s.removeDeadline i) :=
  (s.removeDeadline_quiet i).work (s.removeDeadline_edits i)

theorem State.editMember_work (i : Nat) {f : Membership → Membership}
    (hrole : ∀ m, (f m).role = m.role := by intro; rfl) (htoken : ∀ m, (f m).token = m.token := by intro; rfl) :
    EngineWork s (s.editMember i f) :=
  (s.editMember_quiet i f).work (s.editMember_edits i hrole htoken)

theorem State.contend_work (h : Nat) (w : Mode) (i : Nat) : EngineWork s (s.contend h w i) := by
  simp only [State.contend]
  repeat' split
  · exact .refl s
  · next m hm _ =>
    exact ((s.putMember_quiet i { m with noticed := true }).work (State.putMember_edits hm)).trans
      (State.notify_work _ _ _)
  · exact .refl s

theorem State.contendAll_work (h : Nat) (w : Mode) (l : List Nat) : EngineWork s (s.contendAll h w l) := by
  induction l generalizing s with
  | nil => exact .refl s
  | cons i l ih => exact (s.contend_work h w i).trans (ih _)

theorem State.contentionCheck_work (h i : Nat) : EngineWork s (s.contentionCheck h i) := by
  simp only [State.contentionCheck]
  repeat' split
  · exact .refl s
  · exact .refl s
  · exact .refl s
  · exact s.contend_work h _ i

theorem State.contentionChecks_work (h : Nat) (l : List Nat) :
    EngineWork s (l.foldl (fun s i => s.contentionCheck h i) s) := by
  induction l generalizing s with
  | nil => exact .refl s
  | cons i l ih => exact (s.contentionCheck_work h i).trans (ih _)

end

/-! ### Grants (R40, R45, R48) -/

section
variable {s : State} {h i : Nat}

theorem State.makeExclusive_work (hm : s.member i ≠ none) (hpos : s.dir.nextToken ≠ 0) :
    EngineWork s (s.makeExclusive h i) :=
  (s.makeExclusive_quiet h i).work (State.makeExclusive_edits hm hpos)

@[simp] theorem State.editRecord_nextToken (s : State) (h : Nat) (f : Record → Record) :
    (s.editRecord h f).dir.nextToken = s.dir.nextToken := by
  simp only [State.editRecord]
  split <;> rfl

@[simp] theorem State.editMember_nextToken (s : State) (i : Nat) (f : Membership → Membership) :
    (s.editMember i f).dir.nextToken = s.dir.nextToken := by
  simp only [State.editMember]
  split <;> rfl

@[simp] theorem State.withdrawDeadline_nextToken (s : State) (i : Nat) :
    (s.withdrawDeadline i).dir.nextToken = s.dir.nextToken := by
  simp only [State.withdrawDeadline]
  repeat' split
  all_goals rfl

@[simp] theorem State.clearUpgrade_nextToken (s : State) (h i : Nat) :
    (s.clearUpgrade h i).dir.nextToken = s.dir.nextToken := by
  simp only [State.clearUpgrade]
  split
  · rfl
  · simp

theorem State.grantUpgrade_work (hpos : s.dir.nextToken ≠ 0) : EngineWork s (s.grantUpgrade h i) := by
  simp only [State.grantUpgrade]
  split
  · exact .refl s
  · next m hm =>
    have hused : (s.clearUpgrade h i).member i ≠ none := State.clearUpgrade_member_isSome (by simp [hm])
    exact ((((s.clearUpgrade_work h i).trans (State.makeExclusive_work hused (by simpa using hpos))).trans
      (State.notify_work _ _ _)).trans (State.countAgent_work _ _ _)).trans (State.contentionCheck_work _ h i)

theorem State.upgradeStage_work (s : State) (h : Nat) : EngineWork s (s.upgradeStage h).1 := by
  simp only [State.upgradeStage]
  repeat' split
  · exact .refl s
  · exact .refl s
  · exact .refl s
  · exact s.clearUpgrade_work h _
  · next hgrant => exact State.grantUpgrade_work (mt s.exhausted_iff.mpr hgrant.2)
  · exact .refl s

theorem State.withdrawDeadline_work (s : State) (i : Nat) : EngineWork s (s.withdrawDeadline i) :=
  (s.withdrawDeadline_quiet i).work (s.withdrawDeadline_edits i)

/-- The state of an edit of a membership in use. -/
theorem State.editMember_of_member {m : Membership} (f : Membership → Membership) (hm : s.member i = some m) :
    s.editMember i f = s.putMember i (f m) := by
  simp only [State.editMember, hm]

theorem State.editRecord_of_record {r : Record} (f : Record → Record) (hr : s.record h = some r) :
    s.editRecord h f = s.putRecord h (f r) := by
  simp only [State.editRecord, hr]

@[simp] theorem State.withdrawDeadline_member_ne_none (s : State) (i j : Nat) :
    (s.withdrawDeadline i).member j ≠ none ↔ s.member j ≠ none := by
  by_cases hj : j = i
  · subst hj
    simp only [State.withdrawDeadline]
    repeat' split
    · exact Iff.rfl
    · next m hm _ => simp only [State.member] at hm ⊢; simp [hm]
    · exact Iff.rfl
  · rw [State.withdrawDeadline_member_of_ne hj]

/-- A membership that takes the next token, with the write of its record between. -/
theorem State.editMember_editRecord_advanceToken_work (f : Membership → Membership) (g : Record → Record)
    (hm : s.member i ≠ none) (hpos : s.dir.nextToken ≠ 0) (htoken : ∀ m, (f m).token = s.dir.nextToken) :
    EngineWork s ((s.editMember i f).editRecord h g).advanceToken := by
  obtain ⟨m, hm⟩ := Option.ne_none_iff_exists'.mp hm
  rw [State.editMember_of_member f hm]
  have hpool : ((s.putMember i (f m)).editRecord h g).dir.pool = Table.put s.dir.pool i { f m with checkOk := true } := by
    simp only [State.editRecord]; split <;> rfl
  have hnext : ((s.putMember i (f m)).editRecord h g).dir.nextToken = s.dir.nextToken := by simp
  have hquiet : QuietFrame s ((s.putMember i (f m)).editRecord h g).advanceToken :=
    ((s.putMember_quiet i _).trans (State.editRecord_quiet _ h g)).trans (State.advanceToken_quiet _)
  refine hquiet.work ⟨hquiet.clock, ?_, ?_, ?_⟩
  · exact (State.editRecord_edits (s.putMember i (f m)) h g).slots
  · have hgrant : PoolEdits s.dir.pool s.dir.nextToken (Table.put s.dir.pool i { f m with checkOk := true })
        (s.dir.nextToken + 1) := .grant .refl (.inl (by simp only [State.member] at hm; simp [hm])) hpos (htoken m)
    simpa only [State.advanceToken, hpool, hnext] using hgrant
  · exact (State.editRecord_edits (s.putMember i (f m)) h g).deadlines

theorem State.grantWaiter_work (hpos : s.dir.nextToken ≠ 0) : EngineWork s (s.grantWaiter h i) := by
  simp only [State.grantWaiter]
  split
  · exact .refl s
  · next m hm =>
    have hused : (s.withdrawDeadline i).member i ≠ none := by simp [hm]
    have hpos' : (s.withdrawDeadline i).dir.nextToken ≠ 0 := by simpa using hpos
    have htake := State.editMember_editRecord_advanceToken_work (h := h)
      (fun x => { x with role := .hold, token := s.dir.nextToken, noticed := false })
      (fun r =>
        { r with
          mode := if r.holders.isEmpty then m.mode else r.mode
          waiters := r.waiters.filter (fun j => decide (j ≠ i))
          holders := r.holders ++ [i] }) hused hpos' (fun _ => by simp)
    exact ((((s.withdrawDeadline_work i).trans htake).trans (State.putCounts_work _ _ _)).trans
      (State.notify_work _ _ _)).trans (State.countAgent_work _ _ _)

end

theorem State.grantRun_work (h n : Nat) (g : List Nat) (s : State) : EngineWork s (State.grantRun h n g s).1 := by
  induction n generalizing g s with
  | zero => exact .refl s
  | succ n ih =>
    simp only [State.grantRun]
    repeat' split
    · exact .refl s
    · exact .refl s
    · exact .refl s
    · exact (s.removeWait_work h _).trans (ih _ _)
    · exact .refl s
    · next hpos _ => exact (State.grantWaiter_work (mt s.exhausted_iff.mpr hpos)).trans (ih _ _)
    · exact .refl s
    · exact .refl s

theorem State.waiterStage_work (s : State) (h : Nat) : EngineWork s (s.waiterStage h) := by
  simp only [State.waiterStage]
  split
  · exact .refl s
  · exact (State.grantRun_work h _ _ s).trans (State.contentionChecks_work _ h _)

theorem State.grantPass_work (s : State) (h : Nat) : EngineWork s (s.grantPass h) := by
  simp only [State.grantPass]
  split
  · exact (s.upgradeStage_work h).trans (State.retireIfEmpty_work _ h)
  · exact ((s.upgradeStage_work h).trans (State.waiterStage_work _ h)).trans (State.retireIfEmpty_work _ h)

/-! ### What an operation leaves, sound or faulty (R12, R150 to R154) -/

/-- An operation on `u` ends with work of the engine, with a record quarantined, or with the directory halted. -/
inductive OpOutcome (u : State) : State → Prop
  | work {t : State} : EngineWork u t → OpOutcome u t
  | recordFault {h : Nat} {r : Record} : (h, .live r) ∈ u.dir.slots → OpOutcome u (u.quarantine h r)
  | memberFault : OpOutcome u u.memberFault

theorem OpOutcome.unchanged (u : State) : OpOutcome u u := .work (.refl u)

theorem State.findName_mem {s : State} {ns : Byte} {key : Key} {h : Nat} {r : Record}
    (hname : s.findName ns key = some (h, r)) : (h, .live r) ∈ s.dir.slots := by
  obtain ⟨⟨k, x⟩, hmem, hx⟩ := List.exists_of_findSome?_eq_some hname
  cases x with
  | live r' =>
    simp only at hx
    split at hx
    · cases hx; exact hmem
    · cases hx
  | quarantined c r' => cases hx

theorem State.onRecord_outcome {u : State} {h : Nat} {r : Record} {op : State → State × Result}
    (hmem : (h, .live r) ∈ u.dir.slots) (hop : EngineWork u (op u).1) : OpOutcome u (u.onRecord h r op).1 := by
  simp only [State.onRecord]
  split
  · exact .work hop
  · exact .recordFault hmem
  · exact .memberFault

section
variable (u : State) (a : AgentId) (q : Request)

/-! ### ACQUIRE -/

theorem createRecord_work (tag : Tag) (ns : Byte) (key : Key) (mode : Mode) (notice : Bool) :
    EngineWork u (createRecord a tag ns key mode notice u).1 := by
  simp only [createRecord]
  repeat' split
  · exact .refl u
  · exact .refl u
  · exact .refl u
  · exact .refl u
  · next _ h hslot _ i hentry hpos =>
    have hh := (Table.lowestFree_eq_some.mp hslot).1
    have hi := (Table.lowestFree_eq_some.mp hentry).1
    have halloc := ((u.allocate_quiet i (newMembership a h .hold mode u.dir.nextToken tag notice false)).trans
      (State.advanceToken_quiet _)).work
        (State.allocate_advanceToken_edits u hi (mt u.exhausted_iff.mpr hpos) rfl)
    exact (halloc.trans ((State.putSlot_quiet _ h _).work (State.putSlot_edits _ _ (.inr hh)))).trans
      (State.countAgent_work _ a _)

theorem grantAtOnce_work (tag : Tag) (notice : Bool) (h : Nat) : EngineWork u (grantAtOnce a tag notice h u).1 := by
  simp only [grantAtOnce]
  repeat' split
  · exact .refl u
  · exact .refl u
  · exact .refl u
  · next i hentry hpos =>
    have hi := (Table.lowestFree_eq_some.mp hentry).1
    have halloc := ((u.allocate_quiet i (newMembership a h .hold .shared u.dir.nextToken tag notice false)).trans
      (State.advanceToken_quiet _)).work
        (State.allocate_advanceToken_edits u hi (mt u.exhausted_iff.mpr hpos) rfl)
    exact (halloc.trans (State.editRecord_work _ h _)).trans (State.countAgent_work _ a _)

theorem admitWait_work (tag : Tag) (mode : Mode) (notice prompt : Bool) (deadline : BitVec 16) (h : Nat) (r : Record) :
    EngineWork u (admitWait a tag mode notice prompt deadline h r u).1 := by
  simp only [admitWait]
  repeat' split
  · exact .refl u
  · exact .refl u
  · exact .refl u
  · exact .refl u
  · next i hentry _ =>
    obtain ⟨hi, hfree, -⟩ := Table.lowestFree_eq_some.mp hentry
    have halloc := (u.allocate_quiet i (newMembership a h .wait mode 0 tag notice prompt)).work
      (State.allocate_wait_edits u hfree hi rfl)
    exact (((halloc.trans (State.editRecord_work _ h _)).trans (State.registerDeadline_work _ i _ _)).trans
      (State.contendAll_work _ h mode _)).trans (State.countAgent_work _ a _)

theorem acquireExisting_work (tag : Tag) (mode : Mode) (tryNow prompt notice : Bool) (deadline : BitVec 16) (h : Nat)
    (r : Record) : EngineWork u (acquireExisting a tag mode tryNow prompt notice deadline h r u).1 := by
  simp only [acquireExisting]
  repeat' split
  · exact .refl u
  · exact .refl u
  · exact grantAtOnce_work u a tag notice h
  · exact .refl u
  · exact admitWait_work u a tag mode notice prompt deadline h r

theorem acquireOp_outcome : OpOutcome u (acquireOp a q u).1 := by
  simp only [acquireOp]
  repeat' split
  · exact .work (createRecord_work ..)
  · next hname => exact State.onRecord_outcome (State.findName_mem hname) (acquireExisting_work ..)
  · exact .unchanged u

/-! ### RELEASE, DOWNGRADE, UPGRADE, CANCEL -/

theorem State.onHold_outcome (handle : BitVec 16) (token : Token)
    {op : Nat → Record → Nat → Membership → State → State × Result}
    (hop : ∀ h r i m, u.memberOf a r.holders = some (i, m) → EngineWork u (op h r i m u).1) :
    OpOutcome u (u.onHold a handle token op).1 := by
  simp only [State.onHold]
  split
  · exact .unchanged u
  · exact .unchanged u
  · next r hslot =>
    refine State.onRecord_outcome (Table.mem_of_get hslot) ?_
    repeat' split
    · exact .refl u
    · exact .refl u
    · next i m hheld _ => exact hop _ r i m hheld

theorem releaseHold_work (h : Nat) (r : Record) (i : Nat) (m : Membership) :
    EngineWork u (releaseHold h r i m u).1 :=
  (u.removeHold_work h i).trans (State.grantPass_work _ h)

theorem downgradeHold_work (h : Nat) (r : Record) (i : Nat) (m : Membership) :
    EngineWork u (downgradeHold h r i m u).1 := by
  simp only [downgradeHold]
  split
  · exact .refl u
  · exact ((u.editRecord_work h _).trans (State.editMember_work _ i)).trans (State.grantPass_work _ h)

variable {u a} in
theorem State.memberOf_member {refs : List Nat} {i : Nat} {m : Membership} (hheld : u.memberOf a refs = some (i, m)) :
    u.member i = some m ∧ m.agent = a ∧ i ∈ refs := by
  obtain ⟨j, hj, hx⟩ := List.exists_of_findSome?_eq_some hheld
  split at hx
  · next m' hm =>
    split at hx
    · next hagent => cases hx; exact ⟨hm, hagent, hj⟩
    · cases hx
  · cases hx

theorem upgradeNow_work (tag : Tag) (prompt : Bool) (h : Nat) {i : Nat} (hm : u.member i ≠ none) :
    EngineWork u (upgradeNow a tag prompt h i u).1 := by
  simp only [upgradeNow]
  split
  · exact .refl u
  · next hpos =>
    exact (((State.makeExclusive_work hm (mt u.exhausted_iff.mpr hpos)).trans (State.editMember_work _ i)).trans
      (State.countAgent_work _ a _)).trans (State.contentionCheck_work _ h i)

theorem setUpgrade_work (tag : Tag) (prompt : Bool) (deadline : BitVec 16) (h : Nat) (r : Record) (i : Nat) :
    EngineWork u (setUpgrade a tag prompt deadline h r i u).1 := by
  simp only [setUpgrade]
  split
  · exact .refl u
  · exact ((((((u.editMember_work i).trans (State.editRecord_work _ h _)).trans (State.removeDeadline_work _ i)).trans
      (State.registerDeadline_work _ i _ _)).trans (State.putCounts_work _ a _)).trans
        (State.countAgent_work _ a _)).trans (State.contendAll_work _ h _ _)

theorem upgradeHold_work (tag : Tag) (prompt : Bool) (deadline : BitVec 16) (h : Nat) (r : Record) (i : Nat)
    (m : Membership) (hm : u.member i ≠ none) : EngineWork u (upgradeHold a tag prompt deadline h r i m u).1 := by
  simp only [upgradeHold]
  repeat' split
  · exact .refl u
  · exact upgradeNow_work u a tag prompt h hm
  · exact .refl u
  · exact .refl u
  · exact setUpgrade_work u a tag prompt deadline h r i

theorem releaseOp_outcome : OpOutcome u (releaseOp a q u).1 := by
  simp only [releaseOp]
  split
  · exact u.onHold_outcome a _ _ fun h r i m _ => releaseHold_work u h r i m
  · exact .unchanged u

theorem downgradeOp_outcome : OpOutcome u (downgradeOp a q u).1 := by
  simp only [downgradeOp]
  split
  · exact u.onHold_outcome a _ _ fun h r i m _ => downgradeHold_work u h r i m
  · exact .unchanged u

theorem upgradeOp_outcome : OpOutcome u (upgradeOp a q u).1 := by
  simp only [upgradeOp]
  split
  · exact u.onHold_outcome a _ _ fun h r i m hheld =>
      upgradeHold_work u a _ _ _ h r i m (by simp [(State.memberOf_member hheld).1])
  · exact .unchanged u

theorem cancelOn_work (h : Nat) (r : Record) : EngineWork u (cancelOn a h r u).1 := by
  simp only [cancelOn]
  repeat' split
  · exact (u.removeWait_work h _).trans (State.grantPass_work _ h)
  · exact (u.clearUpgrade_work h _).trans (State.grantPass_work _ h)
  · exact .refl u
  · exact .refl u

theorem cancelOp_outcome : OpOutcome u (cancelOp a q u).1 := by
  simp only [cancelOp]
  repeat' split
  · exact .unchanged u
  · exact .unchanged u
  · next hslot => exact State.onRecord_outcome (Table.mem_of_get hslot) (cancelOn_work u a _ _)
  · exact .unchanged u

/-! ### LOOKUP and LIST -/

theorem lookupOp_outcome : OpOutcome u (lookupOp q u).1 := by
  simp only [lookupOp]
  repeat' split
  · exact .unchanged u
  · next hname => exact State.onRecord_outcome (State.findName_mem hname) (.refl u)
  · exact .unchanged u

theorem listEntries_outcome (l : List (Nat × Membership)) (done : List ListedEntry) {failed : State × Result}
    (hfailed : listEntries u l done = .inl failed) : OpOutcome u failed.1 := by
  induction l generalizing done with
  | nil => cases hfailed
  | cons e l ih =>
    simp only [listEntries] at hfailed
    repeat' split at hfailed
    · exact ih _ hfailed
    · next hslot _ => cases hfailed; exact .recordFault (Table.mem_of_get hslot)
    · exact ih _ hfailed
    · exact ih _ hfailed
    · cases hfailed; exact .memberFault

theorem listOp_outcome : OpOutcome u (listOp a q u).1 := by
  simp only [listOp]
  repeat' split
  · next hfailed => exact listEntries_outcome u _ _ hfailed
  · exact .unchanged u
  · exact .unchanged u

end

/-! ### Expiries, sweeps and breaks (R51, R70 to R73, R100 to R108) -/

section
variable (u : State)

theorem State.expire_work (e : Deadline) (m : Membership) : EngineWork u (u.expire e m) := by
  simp only [State.expire]
  split
  · exact (((u.removeWait_work _ _).trans (State.notify_work _ _ _)).trans (State.countAgent_work _ _ _)).trans
      (State.grantPass_work _ _)
  · exact (((u.clearUpgrade_work _ _).trans (State.notify_work _ _ _)).trans (State.countAgent_work _ _ _)).trans
      (State.grantPass_work _ _)

theorem State.expireWait_outcome (e : Deadline) : OpOutcome u (u.expireWait e) := by
  simp only [State.expireWait]
  repeat' split
  · exact .unchanged u
  · exact .unchanged u
  · exact .unchanged u
  · exact .work (u.expire_work e _)
  · next hr _ _ => exact .recordFault (Table.mem_of_get (State.slot_of_record hr))
  · exact .memberFault
  · exact .memberFault

theorem State.teardownMember_work (i : Nat) (m : Membership) : EngineWork u (u.teardownMember i m) := by
  simp only [State.teardownMember]
  split
  · exact (u.removeHold_work _ _).trans (State.grantPass_work _ _)
  · exact (u.removeWait_work _ _).trans (State.grantPass_work _ _)

/-- A teardown step that finds a membership. -/
theorem State.teardownStep_outcome (a : AgentId) (hheld : u.holdings a ≠ []) : OpOutcome u (u.teardownStep a) := by
  simp only [State.teardownStep]
  repeat' split
  · next hnil => exact absurd hnil hheld
  · exact .work (u.teardownMember_work _ _)
  · next hslot _ _ => exact .recordFault (Table.mem_of_get hslot)
  · exact .memberFault
  · exact .work (u.freeDetached_work _ _)
  · exact .work (u.freeDetached_work _ _)
  · exact .memberFault

/-- A cleanup step that finds a membership. -/
theorem State.cleanupStep_outcome (h : Nat) (hnaming : u.memberNaming h ≠ none) : OpOutcome u (u.cleanupStep h) := by
  simp only [State.cleanupStep]
  split
  · next hnone => exact absurd hnone hnaming
  · split
    · refine .work (EngineWork.trans ?_ (State.freeDetached_work _ _ _))
      split
      · exact u.notify_work _ _
      · exact u.notify_work _ _
      · exact .refl u
      · exact .refl u
    · exact .memberFault

theorem State.revoke_work (h i : Nat) : EngineWork u (u.revoke h i) := by
  simp only [State.revoke]
  split
  · exact .refl u
  · exact (u.removeHold_work h i).trans (State.notify_work _ _ _)

theorem State.revokeAll_work (h : Nat) (l : List Nat) : EngineWork u (u.revokeAll h l) := by
  induction l generalizing u with
  | nil => exact .refl u
  | cons i l ih => exact (u.revoke_work h i).trans (ih _)

end

end Sys2Proof.Machine
end

section
/-! SUPPORT. What one command can do, once for all commands: the turns with the outcome of their operation, the frames, the
links, the timers and the register writes. Every statement on what a step keeps is derived from this list. -/

namespace Sys2Proof.Machine

open Sys2Proof.Expect

/-! ### Turns (R19 to R22) -/

section
variable {s : State} {r : Requester}

theorem State.turnOf_iff : s.turnOf r = true ↔ s.resetN = true ∧ s.nextTurn = some r := by
  simp only [State.turnOf, Bool.and_eq_true, decide_eq_true_iff]

/-- A turn is given while the engine is free, and to a requester that is eligible. -/
theorem State.nextTurn_eligible (hturn : s.nextTurn = some r) : s.arbiter.operation = none ∧ s.eligible r = true := by
  simp only [State.nextTurn] at hturn
  split at hturn
  · cases hturn
  · next hfree =>
    exact ⟨Option.not_isSome_iff_eq_none.mp hfree, List.find?_some hturn⟩

/-- An operation of a requester other than an agent: carried out at its turn, or nothing happens. -/
theorem State.turn_cases (op : State → State) :
    s.turn r op = s ∨ s.resetN = true ∧ s.nextTurn = some r ∧ s.turn r op = ended (op (begun r s)) := by
  simp only [State.turn]
  split
  · next hturn =>
    obtain ⟨hreset, hnext⟩ := State.turnOf_iff.mp hturn
    exact .inr ⟨hreset, hnext, by rw [State.beginOperation_eq_begun, State.endOperation_eq_ended]⟩
  · exact .inl rfl

/-- A turn of an agent's queue: carried out on the head request of its kind, or nothing happens. -/
theorem State.agentTurn_cases (a : AgentId) (k : ReqKind) (op : Request → State → State × Reply) :
    s.agentTurn a k op = s ∨
      ∃ q rest, AgentTurn s a q rest ∧ q.body.kind = k ∧
        s.agentTurn a k op =
          (op q (Expect.taken s a q rest)).1.finish a q (op q (Expect.taken s a q rest)).2 := by
  simp only [State.agentTurn, State.taken]
  split
  · exact .inl rfl
  · next q rest htaken =>
    split at htaken
    · next hturn =>
      obtain ⟨hreset, hnext⟩ := State.turnOf_iff.mp hturn
      split at htaken
      · next hqueue =>
        split at htaken
        · next hkind =>
          cases htaken
          exact .inr ⟨q, rest, ⟨hreset, hnext, hqueue⟩, hkind, by rw [State.take_eq_taken]⟩
        · cases htaken
      · cases htaken
    · cases htaken

end

/-! ### The session requests (R78 to R81, R90, R119) -/

/-- What the operation of OPEN, RESUME, CLOSE or FLUSH makes of the state `u` after the take. -/
inductive SessionWork (a : AgentId) (u : State) : State → Prop
  | unchanged : SessionWork a u u
  | opened : (u.session a).state = .closed → u.dir.state = .online → SessionWork a u (u.openSessionOf a)
  | graced : (u.session a).state = .active →
      SessionWork a u (u.putSession a { u.session a with graceDue := u.graceStart })
  | resumed : (u.session a).state = .suspect →
      SessionWork a u
        ((u.putSession a
          { u.session a with
            state := .active, lapseDue := none, suspectCause := none, graceDue := u.graceStart }).resumeModerator a)
  | retired (tag : Tag) : (u.session a).state = .active ∨ (u.session a).state = .suspect →
      SessionWork a u (u.enterRetiring a .agentClose (some tag))
  | flushed : SessionWork a u (u.flushModerator a)

section
variable (a : AgentId) (q : Request) (u : State)

theorem openOp_work : SessionWork a u (openOp a q u).1 := by
  simp only [openOp]
  repeat' split
  · next hstate _ honline => exact .opened hstate honline
  all_goals exact .unchanged

theorem resumeOp_work : SessionWork a u (resumeOp a q u).1 := by
  simp only [resumeOp]
  repeat' split
  · exact .unchanged
  · exact .unchanged
  · next hstate _ => exact .graced hstate
  · exact .unchanged
  · next hstate _ => exact .resumed hstate
  all_goals exact .unchanged

theorem closeOp_work : SessionWork a u (closeOp a q u).1 := by
  simp only [closeOp]
  repeat' split
  · exact .unchanged
  · exact .unchanged
  · next hstate _ => exact .retired _ (.inl hstate)
  · exact .unchanged
  · next hstate _ => exact .retired _ (.inr hstate)
  all_goals exact .unchanged

theorem flushOp_work : SessionWork a u (flushOp a q u).1 := by
  simp only [flushOp]
  repeat' split
  · exact .unchanged
  · exact .unchanged
  · exact .flushed
  · exact .unchanged
  · exact .flushed
  all_goals exact .unchanged

end

/-! ### The list -/

/-- What a command other than POWER_ON_RESET and RESET_DIRECTORY makes of the state `s`. -/
inductive Event (s : State) : State → Prop
  | nothing : Event s s
  /-- a directory request that is carried out -/
  | directoryTurn {a : AgentId} {q : Request} {rest : List Request} {t : State} {r : Result} : Served s a q rest →
      OpOutcome (Expect.taken s a q rest) t → Event s (t.finish a q (.executed r))
  /-- a session request, or a directory request that is refused at take -/
  | sessionTurn {a : AgentId} {q : Request} {rest : List Request} {t : State} {reply : Reply} : AgentTurn s a q rest →
      SessionWork a (Expect.taken s a q rest) t → Event s (t.finish a q reply)
  | expiryTurn {e : Deadline} {rest : List Deadline} {t : State} : ExpiryTurn s e rest →
      OpOutcome { begun .expiry s with deadlines := { s.deadlines with expiry := rest } } t → Event s (ended t)
  | sweepTurn {j : SweepJob} {rest : List SweepJob} {t : State} : SweepTurn s j rest → OpOutcome (begun .sweep s) t →
      Event s (ended t)
  | teardownDone {a : AgentId} {rest : List SweepJob} : SweepTurn s (.teardown a) rest →
      (begun .sweep s).holdings a = [] → Event s (ended ((begun .sweep s).dropJob.completeTeardown a))
  | cleanupDone {h : Nat} {rest : List SweepJob} : SweepTurn s (.cleanup h) rest →
      (begun .sweep s).memberNaming h = none → Event s (ended ((begun .sweep s).cleanupStep h))
  | managementTurn {c : IssuedCommand} {t : State} {m : Management} : ManagementTurn s c → s.dir.state ≠ .halted →
      (begun .management s).dir.slots ≠ [] → OpOutcome (begun .management s) t → m.config = t.mgmt.config →
      Event s (ended { t with mgmt := m })
  /-- a management turn that changes the management port alone -/
  | managementIdle {c : IssuedCommand} {m : Management} : ManagementTurn s c → m.config = s.mgmt.config →
      Event s (ended { begun .management s with mgmt := m })
  | frame {a : AgentId} (x : Arrival) : (s.port a).linkUp = true → Event s (s.arrive a x)
  /-- a port written by LINK_UP, TRANSMIT_FRAME or FRAME_END -/
  | port {a : AgentId} {p : Port} : (PortOk (s.port a) → PortOk p) → Event s (s.putPort a p)
  | linkDown {a : AgentId} : (s.port a).linkUp = true → Event s (s.linkDown a)
  | graceExpiry {a : AgentId} : (s.session a).state = .active → Event s (s.enterSuspect a .quiet)
  | lapseExpiry {a : AgentId} : (s.session a).state = .suspect → Event s (s.enterRetiring a .lapsed none)
  | holdExpiry {a : AgentId} : (s.moderator a).state = .collecting → Event s (s.emit a)
  | retransmitExpiry {a : AgentId} : (s.moderator a).state = .outstanding → Event s (s.retransmit a)
  | fallDue : Event s s.fallDue
  /-- a register write, a counted frame, or a write to CMD that reaches the management port alone -/
  | management {m : Management} : (ConfigOk s.mgmt.config → ConfigOk m.config) → Event s { s with mgmt := m }
  | enabled {m : Management} : s.dir.state = .offline → m.config = s.mgmt.config →
      Event s { s with dir := { s.dir with state := .online }, mgmt := m }
  | floorLoaded {v : Token} {m : Management} : s.dir.state = .offline → s.dir.nextToken ≠ 0 → s.dir.nextToken ≤ v →
      m.config = s.mgmt.config → Event s { s with dir := { s.dir with nextToken := v }, mgmt := m }
  | evicted {a : AgentId} {m : Management} : (s.session a).state = .active ∨ (s.session a).state = .suspect →
      m.config = s.mgmt.config → Event s { s.enterRetiring a .evicted none with mgmt := m }
  | resetReturnsHigh : Event s { s with resetN := true }

/-! ### Agents' turns -/

section
variable {s : State}

/-- Equal configurations pass the range check together. -/
theorem configOk_of_eq {c d : ConfigValues} (h : d = c) : ConfigOk c → ConfigOk d := fun hc => h ▸ hc

/-- A directory request: refused at take, or served with the outcome of its operation. -/
theorem agentTurn_directory_event (a : AgentId) (k : ReqKind) (op : Request → State → State × Result)
    (hop : ∀ q u, OpOutcome u (op q u).1) :
    Event s (s.agentTurn a k (fun q => State.directoryRequest a (op q))) := by
  rcases State.agentTurn_cases a k (fun q => State.directoryRequest a (op q)) with h | ⟨q, rest, hturn, -, h⟩
  · rw [h]; exact .nothing
  · rw [h]
    simp only [State.directoryRequest]
    split
    · exact .sessionTurn hturn .unchanged
    · next hpass =>
      refine .directoryTurn ⟨hturn, ?_⟩ (hop q _)
      simp only [State.directoryRefusal, taken_session, taken_dir_state] at hpass
      repeat' split at hpass
      · cases hpass
      · cases hpass
      · cases hpass
      · cases hpass
      · cases hpass
      · next hactive _ honline => exact ⟨hactive, honline⟩

theorem agentTurn_session_event (a : AgentId) (k : ReqKind) (op : Request → State → State × Reply)
    (hop : ∀ q u, SessionWork a u (op q u).1) : Event s (s.agentTurn a k op) := by
  rcases State.agentTurn_cases a k op with h | ⟨q, rest, hturn, -, h⟩
  · rw [h]; exact .nothing
  · rw [h]; exact .sessionTurn hturn (hop q _)

/-! ### Turns of the expiry queue and of the Sweep Unit -/

theorem State.begun_deadlines (r : Requester) (s : State) : (begun r s).deadlines = s.deadlines := by
  simp only [begun]
  rw [State.sufferUpset_eq]

theorem State.begun_sweep (r : Requester) (s : State) : (begun r s).sweep = s.sweep := by
  simp only [begun]
  rw [State.sufferUpset_eq]

theorem expireWait_event : Event s (s.turn .expiry expireOp) := by
  rcases State.turn_cases (s := s) (r := .expiry) expireOp with h | ⟨hreset, hnext, h⟩
  · rw [h]; exact .nothing
  · rw [h]
    have hqueue : s.deadlines.expiry ≠ [] := by
      have := (State.nextTurn_eligible hnext).2
      intro hnil
      simp [State.eligible, hnil] at this
    obtain ⟨e, rest, hexpiry⟩ := List.exists_cons_of_ne_nil hqueue
    simp only [expireOp, State.begun_deadlines, hexpiry]
    exact .expiryTurn ⟨hreset, hnext, hexpiry⟩ (State.expireWait_outcome _ e)

theorem teardownStep_event {a : AgentId} {rest : List SweepJob} (hjob : s.sweep = .teardown a :: rest) :
    Event s (s.turn .sweep (State.teardownStep a)) := by
  rcases State.turn_cases (s := s) (r := .sweep) (State.teardownStep a) with h | ⟨hreset, hnext, h⟩
  · rw [h]; exact .nothing
  · rw [h]
    by_cases hheld : (begun .sweep s).holdings a = []
    · have hdone : (begun .sweep s).teardownStep a = (begun .sweep s).dropJob.completeTeardown a := by
        simp only [State.teardownStep, hheld]
      rw [hdone]
      exact .teardownDone ⟨hreset, hnext, hjob⟩ hheld
    · exact .sweepTurn ⟨hreset, hnext, hjob⟩ (State.teardownStep_outcome _ a hheld)

theorem cleanupStep_event {h : Nat} {rest : List SweepJob} (hjob : s.sweep = .cleanup h :: rest) :
    Event s (s.turn .sweep (State.cleanupStep h)) := by
  rcases State.turn_cases (s := s) (r := .sweep) (State.cleanupStep h) with h' | ⟨hreset, hnext, h'⟩
  · rw [h']; exact .nothing
  · rw [h']
    by_cases hnaming : (begun .sweep s).memberNaming h = none
    · exact .cleanupDone ⟨hreset, hnext, hjob⟩ hnaming
    · exact .sweepTurn ⟨hreset, hnext, hjob⟩ (State.cleanupStep_outcome _ h hnaming)

/-! ### The management turn -/

/-- A command on a handle, at its turn: refused, or its operation on a directory that is not HALTED. -/
theorem managementTurn_onHandle_event (k : ArbiterCommand) {op : Nat → State → State}
    (hop : ∀ c h u, ManagementTurn s c → s.dir.state ≠ .halted → u = begun .management s → Event s (ended (op h u))) :
    Event s (s.managementTurn k (fun c => onHandle c op)) := by
  simp only [State.managementTurn]
  split
  · next b hbusy =>
    split
    · rcases State.turn_cases (s := s) (r := .management) (onHandle b op) with h | ⟨hreset, hnext, h⟩
      · rw [h]; exact .nothing
      · rw [h]
        have hturn : ManagementTurn s b := ⟨hreset, hnext, hbusy⟩
        simp only [onHandle]
        split
        · exact .managementIdle (m := ((begun .management s).endRefused .badHandle).mgmt) hturn
            (by simp [begun])
        · split
          · exact .managementIdle (m := ((begun .management s).endRefused .halted).mgmt) hturn (by simp [begun])
          · next hhalt => exact hop b _ _ hturn (by rwa [begun_dir_state] at hhalt) rfl
    · exact .nothing
  · exact .nothing

theorem OpOutcome.mgmt_config {u t : State} (h : OpOutcome u t) : t.mgmt.config = u.mgmt.config := by
  cases h with
  | work hwork => rw [hwork.mgmt]
  | recordFault _ => simp only [State.quarantine]; split <;> rfl
  | memberFault => rfl

theorem breakSlot_event {c : IssuedCommand} {h : Nat} (hturn : ManagementTurn s c) (hhalt : s.dir.state ≠ .halted) :
    Event s (ended (breakSlot h (begun .management s))) := by
  simp only [breakSlot]
  split
  · exact .managementIdle (m := ((begun .management s).endRefused .notLive).mgmt) hturn (by simp [begun])
  · next r hr =>
    have hmem := Table.mem_of_get (State.slot_of_record hr)
    split
    · have hwork : EngineWork (begun .management s) (((begun .management s).revokeAll h r.holders).grantPass h) :=
        (State.revokeAll_work _ h _).trans (State.grantPass_work _ h)
      exact .managementTurn (m := (State.endDone r.holders.length _).mgmt) hturn hhalt (List.ne_nil_of_mem hmem)
        (.work hwork) rfl
    · exact .managementTurn (m := (State.endRefused .recordFault _).mgmt) hturn hhalt (List.ne_nil_of_mem hmem)
        (.recordFault hmem) rfl
    · exact .managementTurn (m := (State.endRefused .membershipFault _).mgmt) hturn hhalt (List.ne_nil_of_mem hmem)
        .memberFault rfl

theorem inspectSlot_event {c : IssuedCommand} {h : Nat} (hturn : ManagementTurn s c) (hhalt : s.dir.state ≠ .halted) :
    Event s (ended (inspectSlot h (begun .management s))) := by
  have hidle (w : Window) : Event s (ended (((begun .management s).putWindow w).endDone 0)) :=
    .managementIdle (m := (((begun .management s).putWindow w).endDone 0).mgmt) hturn (by simp [begun])
  simp only [inspectSlot]
  split
  · exact hidle _
  · exact hidle _
  · next r hslot =>
    have hmem := Table.mem_of_get hslot
    split
    · exact hidle _
    · exact .managementTurn (t := State.quarantine h r _)
        (m := (State.endRefused .recordFault (State.putWindow (Window.ofSlot h .quarantined false) _)).mgmt) hturn hhalt
        (List.ne_nil_of_mem hmem) (.recordFault hmem) rfl
    · exact .managementTurn (t := (begun .management s).memberFault)
        (m := (State.endRefused .membershipFault
          ((begun .management s).memberFault.putWindow (Window.ofSlot h .live false))).mgmt) hturn hhalt
        (List.ne_nil_of_mem hmem) .memberFault rfl

theorem clearSlot_event {c : IssuedCommand} {h : Nat} (hturn : ManagementTurn s c) (hhalt : s.dir.state ≠ .halted) :
    Event s (ended (clearSlot h (begun .management s))) := by
  have hidle (e : Reason) : Event s (ended ((begun .management s).endRefused e)) :=
    .managementIdle (m := ((begun .management s).endRefused e).mgmt) hturn (by simp [begun])
  simp only [clearSlot]
  split
  · next r hslot =>
    exact .managementTurn (m := (State.endDone 0 _).mgmt) hturn hhalt (List.ne_nil_of_mem (Table.mem_of_get hslot))
      (.work ((State.freeSlot_quiet _ h).work (State.freeSlot_edits _ h))) rfl
  all_goals exact hidle _

/-! ### Register writes -/

theorem writeConfig_event (r : ConfigReg) (value : Word) : Event s (s.writeConfig r value) := by
  simp only [State.writeConfig]
  split
  · next hrange =>
    refine .management fun hc => ?_
    obtain ⟨hgrace, hlapse, hcount, hhold, hinterval, hlimit, hquota⟩ := hc
    cases r with
    | grace => exact ⟨hrange, hlapse, hcount, hhold, hinterval, hlimit, hquota⟩
    | lapse => exact ⟨hgrace, hrange, hcount, hhold, hinterval, hlimit, hquota⟩
    | countThreshold => exact ⟨hgrace, hlapse, hrange, hhold, hinterval, hlimit, hquota⟩
    | holdTime => exact ⟨hgrace, hlapse, hcount, hrange, hinterval, hlimit, hquota⟩
    | retransmitInterval => exact ⟨hgrace, hlapse, hcount, hhold, hrange, hlimit, hquota⟩
    | retransmitLimit => exact ⟨hgrace, hlapse, hcount, hhold, hinterval, hrange, hquota⟩
    | membershipQuota a =>
      refine ⟨hgrace, hlapse, hcount, hhold, hinterval, hlimit, fun b => ⟨?_, (hquota b).2⟩⟩
      simp only [ConfigValues.get, ConfigValues.put, Per.get_put]
      split
      · exact hrange
      · exact (hquota b).1
    | waitQuota a =>
      refine ⟨hgrace, hlapse, hcount, hhold, hinterval, hlimit, fun b => ⟨(hquota b).1, ?_⟩⟩
      simp only [ConfigValues.get, ConfigValues.put, Per.get_put]
      split
      · exact hrange
      · exact (hquota b).2
  · exact .management id

theorem clearStat_event (r : StatReg) : Event s (s.clearStat r) :=
  .management (configOk_of_eq (by cases r <;> rfl))

theorem count_event (r : StatReg) : Event s (s.count r) :=
  .management (configOk_of_eq (by cases r <;> rfl))

theorem loadFloor_event (code : Byte) (value : Token) : Event s ((s.newResult code).loadFloor value) := by
  by_cases hoff : s.dir.state = .offline
  · by_cases hzero : s.dir.nextToken = 0
    · rw [State.loadFloor_of_exhausted (s := s.newResult code) hoff hzero]
      exact .management id
    · by_cases hlt : value < s.dir.nextToken
      · rw [State.loadFloor_of_below (s := s.newResult code) hoff hzero hlt]
        exact .management id
      · rw [State.loadFloor_of_reaches (s := s.newResult code) hoff hzero (BitVec.not_lt.mp hlt)]
        exact .floorLoaded hoff hzero (BitVec.not_lt.mp hlt) rfl
  · have hnot : (s.newResult code).dir.state = .online ∨ (s.newResult code).dir.state = .halted := by
      cases hstate : s.dir.state with
      | offline => exact absurd hstate hoff
      | online => exact .inl hstate
      | halted => exact .inr hstate
    rw [State.loadFloor_of_not_offline hnot]
    exact .management id

theorem writeCommand_event (value : Word) : Event s (s.writeCommand value) := by
  simp only [State.writeCommand]
  split
  · exact .management id
  · split
    · exact .management id
    · simp only [State.enable, State.newResult_dir]
      split
      · next hoff => exact .enabled hoff rfl
      · exact .management id
      · exact .management id
    · exact loadFloor_event _ _
    · simp only [State.evict, State.newResult_session]
      split
      · split
        · exact .management id
        · exact .management id
        · next hstate => exact .evicted (.inl hstate) rfl
        · next hstate => exact .evicted (.inr hstate) rfl
      · exact .management id
    · exact .management id

theorem writePlain_event (address : BitVec 16) (value : Word) : Event s (s.writePlain address value) := by
  simp only [State.writePlain]
  split
  · exact .management id
  · split
    · exact .management id
    · exact .nothing

theorem writeRegister_event (address : BitVec 16) (value : Word) : Event s (s.writeRegister address value) := by
  simp only [State.writeRegister]
  repeat' split
  · exact writeConfig_event _ value
  · exact clearStat_event _
  · exact .management id
  · exact .management id
  · exact writeCommand_event value
  · exact writePlain_event address value

/-! ### Links and frames -/

theorem receive_event (a : AgentId) (frame : List Byte) : Event s (s.receive a frame) := by
  simp only [State.receive]
  split
  · next hup =>
    split
    · exact .frame _ (by simp at hup; exact hup.2)
    · exact count_event _
  · exact .nothing

theorem linkUp_event (a : AgentId) : Event s (s.linkUp a) := by
  refine .port fun hok => ?_
  obtain ⟨hinbound, houtbound, hreplay, htags, hreserved, hexec, hwf, -⟩ := hok
  exact ⟨hinbound, houtbound, hreplay, htags, hreserved, hexec, hwf, fun h => by cases h⟩

theorem linkDown_event (a : AgentId) : Event s (s.linkDown a) := by
  by_cases hup : (s.port a).linkUp = true
  · exact .linkDown hup
  · have hsame : s.linkDown a = s := if_neg hup
    rw [hsame]; exact .nothing

theorem transmit_event (a : AgentId) : Event s (s.transmit a) := by
  simp only [State.transmit]
  split
  · next hidle =>
    split
    · refine .port fun hok => ?_
      obtain ⟨hinbound, houtbound, hreplay, htags, hreserved, hexec, hwf, -⟩ := hok
      exact ⟨hinbound, houtbound, hreplay, htags, hreserved, hexec, hwf, fun h => by simp [hidle.1] at h⟩
    · split
      · next hlist =>
        refine .port fun hok => ?_
        obtain ⟨hinbound, houtbound, hreplay, htags, hreserved, hexec, hwf, -⟩ := hok
        refine ⟨hinbound, ?_, hreplay, htags, hreserved, hexec, hwf, fun h => by simp [hidle.1] at h⟩
        rw [hlist, List.length_cons] at houtbound
        exact Nat.le_of_succ_le houtbound
      · exact .nothing
  · exact .nothing

theorem frameEnd_event (a : AgentId) : Event s (s.putPort a { s.port a with transmitting := none }) := by
  refine .port fun hok => ?_
  obtain ⟨hinbound, houtbound, hreplay, htags, hreserved, hexec, hwf, hdown⟩ := hok
  exact ⟨hinbound, houtbound, hreplay, htags, hreserved, hexec, hwf,
    fun h => ⟨(hdown h).1, (hdown h).2.1, (hdown h).2.2.1, rfl⟩⟩

end

/-! ### Every command -/

theorem Event.of_ite {s t : State} {p : Prop} [Decidable p] (h : p → Event s t) : Event s (if p then t else s) := by
  split
  · next hp => exact h hp
  · exact .nothing

theorem exec_event {c : Instr} {s t : State} (hpower : c ≠ .powerOnReset) (hreset : c ≠ .resetDirectory)
    (hexec : exec c s = .next t) : Event s t := by
  cases c <;> first | exact absurd rfl hpower | exact absurd rfl hreset | skip
  all_goals cases hexec
  case linkUp a => exact .of_ite fun _ => linkUp_event a
  case linkDown a => exact .of_ite fun _ => linkDown_event a
  case keepalive a frame => exact receive_event a frame
  case ack a frame => exact receive_event a frame
  case request a frame => exact receive_event a frame
  case openSession a => exact agentTurn_session_event a _ _ (openOp_work a)
  case resume a => exact agentTurn_session_event a _ _ (resumeOp_work a)
  case close a => exact agentTurn_session_event a _ _ (closeOp_work a)
  case flush a => exact agentTurn_session_event a _ _ (flushOp_work a)
  case acquire a => exact agentTurn_directory_event a _ _ fun q u => acquireOp_outcome u a q
  case release a => exact agentTurn_directory_event a _ _ fun q u => releaseOp_outcome u a q
  case downgrade a => exact agentTurn_directory_event a _ _ fun q u => downgradeOp_outcome u a q
  case upgrade a => exact agentTurn_directory_event a _ _ fun q u => upgradeOp_outcome u a q
  case cancel a => exact agentTurn_directory_event a _ _ fun q u => cancelOp_outcome u a q
  case lookup a => exact agentTurn_directory_event a _ _ fun q u => lookupOp_outcome u q
  case list a => exact agentTurn_directory_event a _ _ fun q u => listOp_outcome u a q
  case expireWait => exact expireWait_event
  case teardownStep =>
    split
    · next hhead =>
      obtain ⟨rest, hjob⟩ := List.head?_eq_some_iff.mp hhead
      exact teardownStep_event hjob
    · exact .nothing
  case cleanupStep =>
    split
    · next hhead =>
      obtain ⟨rest, hjob⟩ := List.head?_eq_some_iff.mp hhead
      exact cleanupStep_event hjob
    · exact .nothing
  case graceTimerExpiry a =>
    refine .of_ite fun h => .graceExpiry ?_
    simp only [State.graceExpires, Bool.and_eq_true, decide_eq_true_iff] at h
    exact h.2.1
  case lapseTimerExpiry a =>
    refine .of_ite fun h => .lapseExpiry ?_
    simp only [State.lapseExpires, Bool.and_eq_true, decide_eq_true_iff] at h
    exact h.2.1
  case holdTimerExpiry a =>
    refine .of_ite fun h => .holdExpiry ?_
    simp only [State.holdExpires, Bool.and_eq_true, decide_eq_true_iff] at h
    exact h.2.1
  case retransmitTimerExpiry a =>
    refine .of_ite fun h => .retransmitExpiry ?_
    simp only [State.retransmitExpires, Bool.and_eq_true, decide_eq_true_iff] at h
    exact h.2.1
  case deadlineFallsDue => exact .of_ite fun _ => .fallDue
  case transmitFrame a => exact .of_ite fun _ => transmit_event a
  case enableDirectory upper => exact .of_ite fun _ => writeCommand_event _
  case loadTokenFloor upper => exact .of_ite fun _ => writeCommand_event _
  case evictAgent upper => exact .of_ite fun _ => writeCommand_event _
  case breakRecord =>
    exact managementTurn_onHandle_event _ fun c h u hturn hhalt hu => hu ▸ breakSlot_event hturn hhalt
  case inspectRecord =>
    exact managementTurn_onHandle_event _ fun c h u hturn hhalt hu => hu ▸ inspectSlot_event hturn hhalt
  case clearQuarantine =>
    exact managementTurn_onHandle_event _ fun c h u hturn hhalt hu => hu ▸ clearSlot_event hturn hhalt
  case badCommand value => exact .of_ite fun _ => writeCommand_event value
  case configurationWrite r value => exact .of_ite fun _ => writeConfig_event r value
  case faultSummaryWrite value => exact .of_ite fun _ => .management id
  case faultEnableWrite value => exact .of_ite fun _ => .management id
  case statisticWrite r value => exact .of_ite fun _ => clearStat_event r
  case ntokLo => exact .of_ite fun _ => .management id
  case registerWrite address value => exact .of_ite fun _ => writeRegister_event address value
  case arbiterCommandIssue c upper => exact .of_ite fun _ => writeCommand_event _
  case lostCommandWrite value => exact .of_ite fun _ => writeCommand_event value
  case frameEnd a => exact .of_ite fun _ => frameEnd_event a
  case resetNReturnsHigh => exact .resetReturnsHigh

/-- RESET_DIRECTORY is carried out at its turn, or nothing happens. -/
theorem exec_resetDirectory_cases {s t : State} (hexec : exec .resetDirectory s = .next t) :
    t = s ∨ ∃ c, ManagementTurn s c ∧ t = ended (begun .management s).resetDirectory := by
  cases hexec
  simp only [State.managementTurn]
  split
  · next b hbusy =>
    split
    · rcases State.turn_cases (s := s) (r := .management) State.resetDirectory with h | ⟨hreset, hnext, h⟩
      · exact .inl h
      · exact .inr ⟨b, ⟨hreset, hnext, hbusy⟩, h⟩
    · exact .inl rfl
  · exact .inl rfl

end Sys2Proof.Machine
end

section
/-! SUPPORT. What every step keeps of the record slots, the membership entries, the deadlines and the tokens, and the
statements on it (R1, R10, R24, R25, R65, R66). -/

namespace Sys2Proof.Machine

open Sys2Proof.Expect

/-! ### The damage, the take and the end of an operation are edits -/

section
variable (s : State)

theorem State.sufferUpset_edits : Edits s s.sufferUpset := by
  have hused : Edits { s with upsets := s.upsets.tail } s.sufferUpset ∨ s.upsets = [] := by
    cases hu : s.upsets with
    | nil => exact .inr rfl
    | cons u rest =>
      refine .inl ?_
      simp only [State.sufferUpset, hu, List.tail_cons]
      repeat' split
      · exact .refl _
      · next h r hr =>
        exact State.putSlot_edits _ _ (.inl (by simp [State.slot_of_record hr]))
      · exact .refl _
      · next i m hm =>
        exact { clock := rfl, slots := id, pool := .keep .refl hm rfl rfl, deadlines := .refl }
      · exact .refl _
  rcases hused with h | h
  · refine Edits.trans ?_ h
    exact .of_eq rfl rfl rfl rfl rfl
  · have hsame : s.sufferUpset = s := by simp only [State.sufferUpset, h]
    rw [hsame]; exact .refl s

theorem begun_edits (r : Requester) : Edits s (begun r s) :=
  s.sufferUpset_edits.trans (.of_eq rfl rfl rfl rfl rfl)

theorem taken_edits (a : AgentId) (q : Request) (rest : List Request) : Edits s (Expect.taken s a q rest) :=
  (begun_edits s (.agent a)).trans (.of_eq rfl rfl rfl rfl rfl)

theorem ended_edits : Edits s (ended s) := .of_eq rfl rfl rfl rfl rfl

theorem State.finish_edits (a : AgentId) (q : Request) (reply : Reply) : Edits s (s.finish a q reply) := by
  cases reply with
  | none => exact .of_eq rfl rfl rfl rfl rfl
  | executed r => rw [State.finish_executed]; exact .of_eq rfl rfl rfl rfl rfl
  | refused r => exact .of_eq rfl rfl rfl rfl rfl

/-- A write that reaches the management port alone. -/
theorem setMgmt_edits (m : Management) : Edits s { s with mgmt := m } := .of_eq rfl rfl rfl rfl rfl

theorem State.enterRetiring_edits (a : AgentId) (cause : RetireCause) (tag : Option Tag) :
    Edits s (s.enterRetiring a cause tag) := by
  cases cause <;> exact .of_eq rfl rfl rfl rfl rfl

theorem State.enterSuspect_edits (a : AgentId) (cause : SuspectCause) : Edits s (s.enterSuspect a cause) := by
  simp only [State.enterSuspect]
  split <;> exact .of_eq rfl rfl rfl rfl rfl

theorem State.completeTeardown_edits (a : AgentId) : Edits s (s.completeTeardown a) := by
  simp only [State.completeTeardown]
  refine Edits.trans ?_ (State.removeAgentDeadlines_edits _ a)
  repeat' split
  all_goals exact .of_eq rfl rfl rfl rfl rfl

theorem State.frameReport_edits (a : AgentId) (e : Epoch) : Edits s (s.frameReport a e) := by
  simp only [State.frameReport]
  split <;> exact .of_eq rfl rfl rfl rfl rfl

theorem State.answerArrival_edits (a : AgentId) (q : RawRequest) (r : Result) :
    Edits s (s.answerArrival a q r).1 := by
  simp only [State.answerArrival]
  split <;> exact .of_eq rfl rfl rfl rfl rfl

theorem State.arriveRequest_edits (a : AgentId) (q : RawRequest) : Edits s (s.arriveRequest a q) := by
  simp only [State.arriveRequest]
  repeat' split
  · exact (s.answerArrival_edits a q _).trans (.of_eq rfl rfl rfl rfl rfl)
  · exact s.answerArrival_edits a q _
  · exact .of_eq rfl rfl rfl rfl rfl
  · exact s.answerArrival_edits a q _
  · exact s.answerArrival_edits a q _
  · exact .of_eq rfl rfl rfl rfl rfl
  · exact s.answerArrival_edits a q _

theorem State.arrive_edits (a : AgentId) (x : Arrival) : Edits s (s.arrive a x) := by
  cases x with
  | keepalive e => exact s.frameReport_edits a e
  | ack n e => exact (s.frameReport_edits a e).trans (State.judgeAck_frame _ a n e).edits
  | request q => exact (s.frameReport_edits a q.epoch).trans (State.arriveRequest_edits _ a q)

theorem State.retransmit_edits (a : AgentId) : Edits s (s.retransmit a) := by
  simp only [State.retransmit]
  repeat' split
  · exact .refl s
  · exact (s.resend_frame a _ _).edits
  · exact (State.putModerator_frame s a _).edits.trans (State.enterSuspect_edits _ a _)

/-- Due entries leave the head of the list for the expiry queue (R69). -/
theorem State.fallDue_edits : Edits s s.fallDue where
  clock := rfl
  slots := id
  pool := .refl
  deadlines := .fall .refl List.takeWhile_append_dropWhile.symm

end

theorem OpOutcome.edits {u t : State} (h : OpOutcome u t) : Edits u t := by
  cases h with
  | work hwork => exact hwork.toEdits
  | @recordFault h r hmem =>
    have hused : u.slot h ≠ none := by
      intro hnone
      have hfree := Table.free_of_get_none hnone
      have : (h, Slot.live r) ∈ Table.free u.dir.slots h := hfree.symm ▸ hmem
      simp [Table.free] at this
    rw [State.quarantine_eq_quarantined]
    refine (u.putSlot_edits (.quarantined false r) (.inl hused)).trans ?_
    simp only [quarantined]
    split <;> exact .of_eq rfl rfl rfl rfl rfl
  | memberFault => exact .of_eq rfl rfl rfl rfl rfl

theorem SessionWork.edits {a : AgentId} {u t : State} (h : SessionWork a u t) : Edits u t := by
  cases h with
  | unchanged => exact .refl u
  | opened _ _ => exact .of_eq rfl rfl rfl rfl rfl
  | graced _ => exact .of_eq rfl rfl rfl rfl rfl
  | resumed _ =>
    refine Edits.trans ?_ (State.resumeModerator_frame _ a).edits
    exact .of_eq rfl rfl rfl rfl rfl
  | retired tag _ => exact u.enterRetiring_edits a _ _
  | flushed => exact (u.flushModerator_frame a).edits

/-! ### Every command but POWER_ON_RESET is an edit -/

theorem Event.edits {s t : State} (h : Event s t) : Edits s t := by
  cases h with
  | nothing => exact .refl s
  | directoryTurn _ hop => exact ((taken_edits s _ _ _).trans hop.edits).trans (State.finish_edits _ _ _ _)
  | sessionTurn _ hop => exact ((taken_edits s _ _ _).trans hop.edits).trans (State.finish_edits _ _ _ _)
  | @expiryTurn e rest t hturn hop =>
    have hpop : Edits (begun .expiry s) { begun .expiry s with deadlines := { s.deadlines with expiry := rest } } := by
      have hdeadlines := State.begun_deadlines .expiry s
      have := State.setDeadlines_edits (begun .expiry s) (list := s.deadlines.list) (expiry := rest)
        (by rw [hdeadlines]) (by rw [hdeadlines, hturn.2.2]; exact List.sublist_cons_self ..)
      exact this
    exact (((begun_edits s _).trans hpop).trans hop.edits).trans (ended_edits _)
  | sweepTurn _ hop => exact ((begun_edits s _).trans hop.edits).trans (ended_edits _)
  | teardownDone _ _ =>
    refine ((begun_edits s .sweep).trans ?_).trans (ended_edits _)
    refine Edits.trans ?_ (State.completeTeardown_edits _ _)
    exact .of_eq rfl rfl rfl rfl rfl
  | @cleanupDone h rest _ hnone =>
    refine ((begun_edits s .sweep).trans ?_).trans (ended_edits _)
    simp only [State.cleanupStep, hnone]
    split
    · next hslot =>
      exact Edits.trans (t := (begun .sweep s).dropJob) (.of_eq rfl rfl rfl rfl rfl)
        (State.putSlot_edits _ _ (.inl (by simp [hslot])))
    · exact .of_eq rfl rfl rfl rfl rfl
  | managementTurn _ _ _ hop _ =>
    exact (((begun_edits s _).trans hop.edits).trans (setMgmt_edits _ _)).trans (ended_edits _)
  | managementIdle _ _ => exact ((begun_edits s _).trans (setMgmt_edits _ _)).trans (ended_edits _)
  | frame x _ => exact s.arrive_edits _ x
  | port _ => exact .of_eq rfl rfl rfl rfl rfl
  | @linkDown a hup =>
    simp only [State.linkDown, hup, if_true]
    refine Edits.trans ?_ (State.enterSuspect_edits _ a _)
    exact .of_eq rfl rfl rfl rfl rfl
  | graceExpiry _ => exact s.enterSuspect_edits _ _
  | lapseExpiry _ => exact s.enterRetiring_edits _ _ _
  | holdExpiry _ => exact (s.emit_frame _).edits
  | retransmitExpiry _ => exact s.retransmit_edits _
  | fallDue => exact s.fallDue_edits
  | management _ => exact setMgmt_edits s _
  | enabled _ _ => exact .of_eq rfl rfl rfl rfl rfl
  | floorLoaded _ hpos hle _ =>
    exact { clock := rfl, slots := id, pool := .floor .refl hpos hle, deadlines := .refl }
  | evicted _ _ => exact (s.enterRetiring_edits _ _ _).trans (setMgmt_edits _ _)
  | resetReturnsHigh => exact .of_eq rfl rfl rfl rfl rfl

theorem exec_edits {c : Instr} {s t : State} (hpower : c ≠ .powerOnReset) (hexec : exec c s = .next t) : Edits s t := by
  by_cases hreset : c = .resetDirectory
  · subst hreset
    rcases exec_resetDirectory_cases hexec with rfl | ⟨-, -, rfl⟩
    · exact .refl t
    · refine ((begun_edits s .management).trans ?_).trans (ended_edits _)
      exact
        { clock := rfl
          slots := fun _ => rfl
          pool := .clear .refl
          deadlines := .remove .refl (List.nil_sublist _) (List.nil_sublist _) }
  · exact (exec_event hpower hreset hexec).edits

/-! ### A step (log entry 2) -/

/-- A step carries out the command at the front of the queue, or lets time pass. -/
theorem step_cases {s t : State} (hstep : step s = .next t) :
    (∃ c rest, s.pending = c :: rest ∧ exec c { s with pending := rest } = .next t) ∨ s.pending = [] ∧ t = s.idle := by
  simp only [step] at hstep
  split at hstep
  · next c rest hpending => exact .inl ⟨c, rest, hpending, hstep⟩
  · next hpending => cases hstep; exact .inr ⟨hpending, rfl⟩

/-- POWER_ON_RESET leaves the state after reset, but for the pin, the port of it, and what is no state of the part. -/
theorem exec_powerOnReset_eq {s t : State} (hexec : exec .powerOnReset s = .next t) : t = s.powerOn := by
  cases hexec; rfl

/-- A condition on the part that POWER_ON_RESET, every other command and the passing of time keep is kept by every step. -/
theorem step_keeps {P : State → Prop} (hpending : ∀ s rest, P s → P { s with pending := rest })
    (hpower : ∀ s : State, P s.powerOn)
    (hexec : ∀ c s t, c ≠ .powerOnReset → exec c s = .next t → P s → P t) (hidle : ∀ s : State, P s → P s.idle)
    {s t : State} (hs : P s) (hstep : step s = .next t) : P t := by
  rcases step_cases hstep with ⟨c, rest, -, hrun⟩ | ⟨-, rfl⟩
  · by_cases hc : c = .powerOnReset
    · subst hc
      rw [exec_powerOnReset_eq hrun]
      exact hpower _
    · exact hexec c _ t hc hrun (hpending s rest hs)
  · exact hidle s hs

theorem State.idle_eq (s : State) : s.idle = s ∨ s.expiryOutstanding = false ∧ s.idle = { s with clock := s.clock.tick } := by
  simp only [State.idle]
  split
  · next h =>
    rw [Bool.and_eq_true, Bool.not_eq_true'] at h
    exact .inr ⟨h.2, rfl⟩
  · exact .inl rfl

/-! ### The statements on tables and tokens -/

/-- Settles O53: every command but POWER_ON_RESET is an edit, which keeps slots and entries canonical; POWER_ON_RESET frees
them all, and time passing leaves them. -/
theorem stepKeepsTheTablesCanonical : Obligations.StepKeepsTheTablesCanonical := by
  intro s t hs hstep
  refine step_keeps (P := TablesCanonical) (fun _ _ h => h) (fun _ => ⟨rfl, rfl⟩) ?_ ?_ hs hstep
  · intro c s t hc hexec hs
    have hedits := exec_edits hc hexec
    exact ⟨hedits.slots hs.1, hedits.pool.wf hs.2⟩
  · intro s hs
    rcases s.idle_eq with h | ⟨-, h⟩ <;> rw [h] <;> exact hs

theorem Edits.tokensOk {s t : State} (h : Edits s t) (hs : TokensOk s) : TokensOk t :=
  ⟨h.pool.wf hs.1, h.pool.tokensOk hs.1 hs.2⟩

theorem tokenRises_idle (s : State) : TokenRises s.dir.nextToken s.idle.dir.nextToken := by
  rcases s.idle_eq with h | ⟨-, h⟩ <;> rw [h] <;> exact .refl _

/-- Settles O59: an edit gives a token only as the next one, which it raises, and no edit lowers next token. -/
theorem stepKeepsTheTokens : Obligations.StepKeepsTheTokens := by
  intro s t hs hstep
  refine ⟨?_, fun hhead => ?_⟩
  · refine step_keeps (P := TokensOk) (fun _ _ h => h) (fun _ => ?_) (fun c s t hc hexec => (exec_edits hc hexec).tokensOk)
      ?_ hs hstep
    · exact ⟨rfl, List.nodup_nil, fun t ht => absurd ht List.not_mem_nil⟩
    · intro s hs
      rcases s.idle_eq with h | ⟨-, h⟩ <;> rw [h] <;> exact hs
  · rcases step_cases hstep with ⟨c, rest, hpending, hexec⟩ | ⟨-, rfl⟩
    · have hc : c ≠ .powerOnReset := by
        rintro rfl
        exact hhead (by rw [hpending]; rfl)
      exact (exec_edits hc hexec).pool.tokenRises
    · exact tokenRises_idle s

/-! ### The passing of time and the deadlines (R66, R69) -/

/-- A due time that a timebase has not reached is more than no time away. -/
theorem remaining_pos_of_not_reached {now due : Time} (h : reached now due = false) : 0 < remaining now due := by
  by_contra hzero
  have hsame : due = now := by
    have : (due - now).toNat = 0 := by simpa [remaining] using hzero
    bv_omega
  simp [reached, hsame] at h

/-- With each millisecond one millisecond less remains, until nothing remains. -/
theorem remaining_tick {now due : Time} (h : 0 < remaining now due) : remaining (now + 1) due = remaining now due - 1 := by
  simp only [remaining] at h ⊢
  bv_omega

theorem Clock.tick_ms (c : Clock) : c.tick.ms = c.ms ∨ c.tick.ms = c.ms + 1 := by
  simp only [Clock.tick]
  split
  · exact .inr rfl
  · exact .inl rfl

/-- While no entry is due, a millisecond passing keeps the order of the list. -/
theorem DeadlineOrder.tick {now : Time} {d : DeadlineUnit} (h : DeadlineOrder now d)
    (hnone : d.list.takeWhile (fun e => reached now e.due) = []) : DeadlineOrder (now + 1) d := by
  obtain ⟨hnodup, hbound, hsorted⟩ := h
  have hpos : ∀ e ∈ d.list, 0 < remaining now e.due := by
    cases hlist : d.list with
    | nil => simp
    | cons x l =>
      have hx : reached now x.due = false := by
        rw [hlist] at hnone
        by_contra hreached
        rw [List.takeWhile_cons_of_pos (by simpa using hreached)] at hnone
        cases hnone
      rw [hlist, List.pairwise_cons] at hsorted
      intro e he
      rcases List.mem_cons.mp he with rfl | he
      · exact remaining_pos_of_not_reached hx
      · exact Nat.lt_of_lt_of_le (remaining_pos_of_not_reached hx) (hsorted.1 e he)
  refine ⟨hnodup, fun e he => ?_, hsorted.imp_of_mem fun {x y} hx hy hle => ?_⟩
  · rw [remaining_tick (hpos e he)]
    exact Nat.le_trans (Nat.sub_le ..) (hbound e he)
  · rw [remaining_tick (hpos x hx), remaining_tick (hpos y hy)]
    omega

/-- Settles O57: an edit keeps the deadlines in order at the time it finds, and time passes only while none is due. -/
theorem stepKeepsTheDeadlines : Obligations.StepKeepsTheDeadlines := by
  intro s t hs hstep
  refine step_keeps (P := DeadlinesOk) (fun _ _ h => h) (fun _ => ?_) ?_ ?_ hs hstep
  · exact ⟨List.nodup_nil, fun e he => absurd he List.not_mem_nil, List.Pairwise.nil⟩
  · intro c s t hc hexec hs
    have hedits := exec_edits hc hexec
    rw [deadlinesOk_iff, hedits.clock]
    exact hedits.deadlines.order hs
  · intro s hs
    rcases s.idle_eq with h | ⟨hquiet, h⟩
    · rwa [h]
    · rw [h, deadlinesOk_iff]
      have hnone : s.deadlines.list.takeWhile (fun e => reached s.clock.ms e.due) = [] := by
        simp only [State.expiryOutstanding, Bool.or_eq_false_iff, Bool.not_eq_false'] at hquiet
        exact List.isEmpty_iff.mp hquiet.1
      rcases s.clock.tick_ms with hms | hms <;> simp only [hms]
      · exact hs
      · exact DeadlineOrder.tick hs hnone

end Sys2Proof.Machine
end

section
/-! SUPPORT. What every step keeps of the ports, and the statement on it (R134, R139, R141 to R143). -/

namespace Sys2Proof.Machine

open Sys2Proof.Expect

/-! ### The bounds of a port inside a turn -/

/-- The bounds of a port at any moment, a reserved place of the outbound list counted as occupied. -/
structure PortBounds (p : Port) : Prop where
  inbound : p.inbound.length ≤ Config.inboundSize
  outbound : p.outboundCount ≤ Config.outboundSize
  replay : p.replay.length ≤ Config.replaySize
  tags : (p.replay.map CacheEntry.tag).Nodup
  wf : ∀ q ∈ p.inbound, Request.wf q = true
  down : p.linkUp = false → p.inbound = [] ∧ p.outbound = [] ∧ p.digestPlace = none ∧ p.transmitting = none

theorem portOk_iff (p : Port) : PortOk p ↔ PortBounds p ∧ p.reserved = false ∧ p.inExecution = none := by
  constructor
  · rintro ⟨hinbound, houtbound, hreplay, htags, hreserved, hexec, hwf, hdown⟩
    exact ⟨⟨hinbound, by simpa [Port.outboundCount, hreserved] using houtbound, hreplay, htags, hwf, hdown⟩, hreserved,
      hexec⟩
  · rintro ⟨⟨hinbound, houtbound, hreplay, htags, hwf, hdown⟩, hreserved, hexec⟩
    exact ⟨hinbound, by simpa [Port.outboundCount, hreserved] using houtbound, hreplay, htags, hreserved, hexec, hwf,
      hdown⟩

/-- What leads from `s` to `t` keeps the bounds of every port, its reservation and its tag in execution. -/
structure PortsKept (s t : State) : Prop where
  bounds : ∀ b, PortBounds (s.port b) → PortBounds (t.port b)
  reserved : ∀ b, (t.port b).reserved = (s.port b).reserved
  inExecution : ∀ b, (t.port b).inExecution = (s.port b).inExecution

theorem PortsKept.trans {s t u : State} (h : PortsKept s t) (h' : PortsKept t u) : PortsKept s u where
  bounds b hb := h'.bounds b (h.bounds b hb)
  reserved b := (h'.reserved b).trans (h.reserved b)
  inExecution b := (h'.inExecution b).trans (h.inExecution b)

theorem PortsKept.of_eq {s t : State} (h : t.ports = s.ports) : PortsKept s t where
  bounds b hb := by simpa only [State.port, h] using hb
  reserved b := by simp only [State.port, h]
  inExecution b := by simp only [State.port, h]

theorem PortsKept.refl (s : State) : PortsKept s s := .of_eq rfl

/-- A write of one port. -/
theorem State.putPort_kept {s : State} {a : AgentId} {p : Port} (hbounds : PortBounds (s.port a) → PortBounds p)
    (hreserved : p.reserved = (s.port a).reserved) (hexec : p.inExecution = (s.port a).inExecution) :
    PortsKept s (s.putPort a p) := by
  have hport (b : AgentId) : (s.putPort a p).port b = p ∧ b = a ∨ (s.putPort a p).port b = s.port b := by
    rw [State.putPort_port]
    split
    · next h => exact .inl ⟨rfl, h⟩
    · exact .inr rfl
  refine ⟨fun b hb => ?_, fun b => ?_, fun b => ?_⟩
  · rcases hport b with ⟨h, rfl⟩ | h <;> rw [h]
    · exact hbounds hb
    · exact hb
  · rcases hport b with ⟨h, rfl⟩ | h <;> rw [h]
    exact hreserved
  · rcases hport b with ⟨h, rfl⟩ | h <;> rw [h]
    exact hexec

/-- Another digest in its place keeps the bounds, but on a DOWN link. -/
theorem PortBounds.setDigestPlace {p : Port} (h : PortBounds p) {d : Option Digest}
    (hdown : p.linkUp = false → d = p.digestPlace) : PortBounds { p with digestPlace := d } where
  inbound := h.inbound
  outbound := h.outbound
  replay := h.replay
  tags := h.tags
  wf := h.wf
  down hlink := by
    obtain ⟨hin, hout, hplace, htrans⟩ := h.down hlink
    exact ⟨hin, hout, (hdown hlink).trans hplace, htrans⟩

theorem PortsKept.of_digestPlace {s t : State}
    (hport : ∀ b, t.port b = { s.port b with digestPlace := (t.port b).digestPlace })
    (hdown : ∀ b, (s.port b).linkUp = false → (t.port b).digestPlace = (s.port b).digestPlace) : PortsKept s t where
  bounds b hb := by rw [hport b]; exact hb.setDigestPlace (hdown b)
  reserved b := by rw [hport b]
  inExecution b := by rw [hport b]

theorem EngineWork.portsKept {s t : State} (h : EngineWork s t) : PortsKept s t := .of_digestPlace h.port h.digestPlace

theorem ModeratorFrame.portsKept {s t : State} (h : ModeratorFrame s t)
    (hdown : ∀ b, (s.port b).linkUp = false → t.port b = s.port b) : PortsKept s t :=
  .of_digestPlace h.port fun b hb => by rw [hdown b hb]

theorem OpOutcome.portsKept {u t : State} (h : OpOutcome u t) : PortsKept u t := by
  cases h with
  | work hwork => exact hwork.portsKept
  | recordFault _ =>
    refine .of_eq ?_
    simp only [State.quarantine]
    split <;> rfl
  | memberFault => exact .of_eq rfl

/-! ### The moderators' operations on a DOWN link (R144) -/

section
variable (s : State) (a b : AgentId) (hdown : (s.port b).linkUp = false)
include hdown

theorem State.flushModerator_down : (s.flushModerator a).port b = s.port b := by
  simp only [State.flushModerator]
  split
  · exact s.emit_down a b hdown
  all_goals rfl

theorem State.acceptAck_down (d : Digest) : (s.acceptAck a d).port b = s.port b := by
  unfold State.acceptAck
  dsimp only
  split
  · split
    · rfl
    · exact State.enterCollecting_down _ a b hdown
  all_goals rfl

theorem State.judgeAck_down (n : Byte) (e : Epoch) : (s.judgeAck a n e).port b = s.port b := by
  simp only [State.judgeAck]
  repeat' split
  · rfl
  · rfl
  · exact s.acceptAck_down a b hdown _
  all_goals rfl

theorem State.resend_down (d : Digest) (n : Nat) : (s.resend a d n).port b = s.port b :=
  State.handDigest_down _ a _ b hdown

theorem State.resumeModerator_down : (s.resumeModerator a).port b = s.port b := by
  simp only [State.resumeModerator]
  repeat' split
  · exact s.resend_down a b hdown _ 0
  · rfl
  · exact State.enterCollecting_down _ a b hdown

end

/-! ### The Session Controller -/

/-- A port whose replay cache is emptied. -/
theorem PortBounds.clearReplay {p : Port} (h : PortBounds p) : PortBounds { p with replay := [] } :=
  ⟨h.inbound, h.outbound, Nat.zero_le _, List.nodup_nil, h.wf, h.down⟩

section
variable (s : State) (a : AgentId)

theorem State.enterRetiring_portsKept (cause : RetireCause) (tag : Option Tag) :
    PortsKept s (s.enterRetiring a cause tag) := by
  have hkept : PortsKept s (s.putPort a { s.port a with replay := [], digestPlace := none }) :=
    State.putPort_kept
      (fun h => h.clearReplay.setDigestPlace fun hlink => (h.down hlink).2.2.1.symm) rfl rfl
  have hports : (s.enterRetiring a cause tag).ports =
      (s.putPort a { s.port a with replay := [], digestPlace := none }).ports := by
    have hself : ((s.putPort a { s.port a with replay := [] }).putPort a
        { s.port a with replay := [], digestPlace := none }).ports =
          (s.putPort a { s.port a with replay := [], digestPlace := none }).ports := by
      rw [State.putPort_putPort]
    rw [← hself]
    cases cause <;> simp [State.enterRetiring, State.retireModerator, State.raise]
  exact hkept.trans (.of_eq hports)

theorem State.enterSuspect_portsKept (cause : SuspectCause) : PortsKept s (s.enterSuspect a cause) := by
  simp only [State.enterSuspect]
  split
  · exact .of_eq rfl
  · exact .refl s

theorem SessionWork.portsKept {u t : State} (h : SessionWork a u t) : PortsKept u t := by
  cases h with
  | unchanged => exact .refl u
  | opened _ _ =>
    have hkept : PortsKept u (u.putPort a { u.port a with replay := [] }) :=
      State.putPort_kept PortBounds.clearReplay rfl rfl
    exact hkept.trans (.of_eq rfl)
  | graced _ => exact .of_eq rfl
  | resumed _ =>
    refine PortsKept.trans ?_
      ((State.resumeModerator_frame _ a).portsKept fun b hb => State.resumeModerator_down _ a b hb)
    exact .of_eq rfl
  | retired tag _ => exact u.enterRetiring_portsKept a _ _
  | flushed => exact (u.flushModerator_frame a).portsKept (fun b hb => u.flushModerator_down a b hb)

/-- A response joins an UP port that has room (R143). -/
theorem PortBounds.answer {p : Port} (h : PortBounds p) (hup : p.linkUp = true) (hroom : p.hasRoom = true)
    (x : Response) : PortBounds { p with outbound := p.outbound ++ [x] } where
  inbound := h.inbound
  outbound := by
    have hfree := of_decide_eq_true hroom
    simp only [Port.outboundCount, List.length_append, List.length_singleton] at hfree ⊢
    omega
  replay := h.replay
  tags := h.tags
  wf := h.wf
  down hlink := by rw [hup] at hlink; cases hlink

theorem State.completeTeardown_portsKept : PortsKept s (s.completeTeardown a) := by
  simp only [State.completeTeardown]
  split
  · split
    · next hroom =>
      refine PortsKept.trans ?_
        ((State.putPort_kept (fun h => h.answer hroom.1 hroom.2 _) rfl rfl).trans (.of_eq rfl))
      exact .of_eq rfl
    · exact .of_eq rfl
  · exact .of_eq rfl

/-! ### Frames -/

theorem State.frameReport_portsKept (e : Epoch) : PortsKept s (s.frameReport a e) := by
  simp only [State.frameReport]
  split
  · exact .of_eq rfl
  · exact .refl s

theorem State.answerArrival_portsKept (q : RawRequest) (r : Result) (hup : (s.port a).linkUp = true) :
    PortsKept s (s.answerArrival a q r).1 := by
  simp only [State.answerArrival]
  split
  · next hroom => exact State.putPort_kept (fun h => h.answer hup hroom _) rfl rfl
  · exact .of_eq rfl

/-- A request that is read from its body is well formed (R140). -/
theorem readBody_wf {k : ReqKind} {body : List Byte} {b : RequestBody} (h : readBody k body = some b) (tag : Tag)
    (epoch : Epoch) : Request.wf { tag := tag, epoch := epoch, body := b } = true := by
  unfold readBody at h
  repeat' split at h
  all_goals cases h
  all_goals first | rfl | assumption

theorem RawRequest.parse_wf {q : RawRequest} {x : Request} (h : q.parse = some x) : Request.wf x = true := by
  simp only [RawRequest.parse] at h
  split at h
  · cases h
  · split at h
    · cases h
    · next hb => cases h; exact readBody_wf hb q.tag q.epoch

theorem State.arriveRequest_portsKept (q : RawRequest) (hup : (s.port a).linkUp = true) :
    PortsKept s (s.arriveRequest a q) := by
  simp only [State.arriveRequest]
  repeat' split
  · exact (s.answerArrival_portsKept a q _ hup).trans (.of_eq rfl)
  · exact s.answerArrival_portsKept a q _ hup
  · exact .of_eq rfl
  · exact s.answerArrival_portsKept a q _ hup
  · exact s.answerArrival_portsKept a q _ hup
  · next x hparse hroom =>
    refine State.putPort_kept (fun h => ⟨?_, h.outbound, h.replay, h.tags, fun y hy => ?_, fun hlink => ?_⟩) rfl rfl
    · simp only [List.length_append, List.length_singleton]
      exact hroom
    · rcases List.mem_append.mp hy with hy | hy
      · exact h.wf y hy
      · rw [List.mem_singleton.mp hy]
        exact RawRequest.parse_wf hparse
    · rw [hup] at hlink; cases hlink
  · exact s.answerArrival_portsKept a q _ hup

theorem State.frameReport_port (e : Epoch) (b : AgentId) : (s.frameReport a e).port b = s.port b := by
  simp only [State.frameReport]
  split <;> rfl

theorem State.arrive_portsKept (x : Arrival) (hup : (s.port a).linkUp = true) : PortsKept s (s.arrive a x) := by
  cases x with
  | keepalive e => exact s.frameReport_portsKept a e
  | ack n e =>
    exact (s.frameReport_portsKept a e).trans
      ((State.judgeAck_frame _ a n e).portsKept fun b hb => State.judgeAck_down _ a b hb n e)
  | request q =>
    exact (s.frameReport_portsKept a q.epoch).trans
      (State.arriveRequest_portsKept _ a q (by rw [State.frameReport_port]; exact hup))

theorem State.retransmit_portsKept : PortsKept s (s.retransmit a) := by
  simp only [State.retransmit]
  repeat' split
  · exact .refl s
  · exact (s.resend_frame a _ _).portsKept fun b hb => s.resend_down a b hb _ _
  · refine PortsKept.trans ?_ (State.enterSuspect_portsKept _ a _)
    exact .of_eq rfl

end

/-! ### The turn of an agent (R139, R142, R143) -/

/-- A cache that enters an outcome holds at most 16 entries, with distinct tags (R142). -/
theorem enterCache_length_le (e : CacheEntry) (cache : List CacheEntry) (h : cache.length ≤ Config.replaySize) :
    (enterCache e cache).length ≤ Config.replaySize := by
  have hkept := List.length_filter_le (fun x : CacheEntry => decide (x.tag ≠ e.tag)) cache
  simp only [enterCache, List.length_append, List.length_singleton]
  split
  · simp only [List.length_drop, Config.replaySize] at *
    omega
  · simp only [Config.replaySize] at *
    omega

theorem enterCache_tags_nodup (e : CacheEntry) (cache : List CacheEntry) (h : (cache.map CacheEntry.tag).Nodup) :
    ((enterCache e cache).map CacheEntry.tag).Nodup := by
  have hkept : ∀ l : List CacheEntry, l.Sublist (cache.filter (fun x => decide (x.tag ≠ e.tag))) →
      ((l ++ [e]).map CacheEntry.tag).Nodup := by
    intro l hl
    have hcache := h.sublist ((hl.trans List.filter_sublist).map CacheEntry.tag)
    rw [List.map_append, List.nodup_append]
    refine ⟨hcache, List.nodup_singleton _, ?_⟩
    rintro t ht t' ht' rfl
    obtain ⟨x, hx, rfl⟩ := List.mem_map.mp ht
    have hne := of_decide_eq_true (List.mem_filter.mp (hl.subset hx)).2
    exact hne (by simpa using ht')
  simp only [enterCache]
  split
  · exact hkept _ (List.drop_sublist 1 _)
  · exact hkept _ (List.Sublist.refl _)

/-- The response of a request joins in its reserved place (R143). -/
theorem PortBounds.finish {p : Port} (h : PortBounds p) (x : Option Response) {cache : List CacheEntry}
    (hlength : cache.length ≤ Config.replaySize) (htags : (cache.map CacheEntry.tag).Nodup) :
    PortOk
      { p with
        outbound := match x with | some r => joined p r | none => p.outbound
        replay := cache
        reserved := false
        inExecution := none } := by
  rw [portOk_iff]
  refine ⟨⟨h.inbound, ?_, hlength, htags, h.wf, fun hlink => ?_⟩, rfl, rfl⟩
  · have hcount := h.outbound
    simp only [Port.outboundCount, Config.outboundSize] at hcount ⊢
    cases x with
    | none => simp only; split at hcount <;> simpa using (by omega : p.outbound.length ≤ 16)
    | some r =>
      simp only [joined]
      by_cases hplace : p.reserved = true ∧ p.linkUp = true
      · simp only [hplace, if_true, and_self, List.length_append, List.length_singleton] at hcount ⊢
        simpa using hcount
      · simp only [if_neg hplace]
        split at hcount <;> simpa using (by omega : p.outbound.length ≤ 16)
  · obtain ⟨hin, hout, hplace, htrans⟩ := h.down hlink
    refine ⟨hin, ?_, hplace, htrans⟩
    cases x with
    | none => exact hout
    | some r =>
      simp only [joined]
      rw [if_neg (fun hp => by rw [show p.linkUp = false from hlink] at hp; cases hp.2)]
      exact hout

theorem State.finish_refused (a : AgentId) (q : Request) (r : Result) (s : State) :
    s.finish a q (.refused r) = refused a q r s := by
  simp only [State.finish, State.respond_eq, State.putPort_putPort, State.putPort_port_self]
  rfl

theorem State.finish_none (a : AgentId) (q : Request) (s : State) : s.finish a q .none = unanswered a s := by
  simp only [State.finish, State.putPort_putPort, State.putPort_port_self]
  rfl

/-- The end of a turn leaves the port of its agent within its bounds, with nothing reserved or in execution. -/
theorem State.finish_port_self {s : State} {a : AgentId} (q : Request) (reply : Reply) (h : PortBounds (s.port a)) :
    PortOk ((s.finish a q reply).port a) := by
  cases reply with
  | none =>
    rw [State.finish_none]
    simp only [unanswered, ended, State.port, Per.get_put_self]
    exact h.finish none h.replay h.tags
  | refused r =>
    rw [State.finish_refused]
    simp only [refused, ended, State.port, Per.get_put_self]
    exact h.finish (some (answer q r)) h.replay h.tags
  | executed r =>
    rw [State.finish_executed]
    simp only [executed, ended, State.port, Per.get_put_self]
    split
    · exact h.finish (some (answer q r)) (enterCache_length_le _ _ h.replay) (enterCache_tags_nodup _ _ h.tags)
    · exact h.finish (some (answer q r)) h.replay h.tags

theorem State.finish_port_of_ne {s : State} {a b : AgentId} (q : Request) (reply : Reply) (hb : b ≠ a) :
    (s.finish a q reply).port b = s.port b := by
  cases reply with
  | none =>
    rw [State.finish_none]
    simp only [unanswered, ended, State.port, Per.get_put_of_ne _ _ hb]
  | refused r =>
    rw [State.finish_refused]
    simp only [refused, ended, State.port, Per.get_put_of_ne _ _ hb]
  | executed r =>
    rw [State.finish_executed]
    simp only [executed, ended, State.port, Per.get_put_of_ne _ _ hb]

theorem State.finish_operation (s : State) (a : AgentId) (q : Request) (reply : Reply) :
    (s.finish a q reply).arbiter.operation = none := rfl

/-- The take reserves a place of the outbound list, which has room at an agent's turn (R20, R147). -/
theorem taken_portBounds {s : State} {a : AgentId} {q : Request} {rest : List Request} (hturn : AgentTurn s a q rest)
    (hok : ∀ b, PortOk (s.port b)) (b : AgentId) : PortBounds ((Expect.taken s a q rest).port b) := by
  have hports : (Expect.taken s a q rest).port b =
      if b = a then { s.port a with inbound := rest, reserved := true, inExecution := some q.tag } else s.port b :=
    Per.get_put ..
  obtain ⟨hbounds, hreserved, -⟩ := (portOk_iff _).mp (hok b)
  rw [hports]
  split
  · next h =>
    subst h
    obtain ⟨-, hnext, hqueue⟩ := hturn
    have hroom : (s.port b).hasRoom = true := by
      have := (State.nextTurn_eligible hnext).2
      simp only [State.eligible, Bool.and_eq_true] at this
      exact this.2
    have hup : (s.port b).linkUp = true := by
      by_contra hlink
      rw [(hbounds.down (by simpa using hlink)).1] at hqueue
      cases hqueue
    refine ⟨?_, ?_, hbounds.replay, hbounds.tags, fun x hx => hbounds.wf x ?_, fun hlink => ?_⟩
    · have := hbounds.inbound
      rw [hqueue, List.length_cons] at this
      exact Nat.le_of_succ_le this
    · simp only [Port.hasRoom, Port.outboundCount, hreserved, decide_eq_true_iff] at hroom ⊢
      simpa using hroom
    · rw [hqueue]; exact List.mem_cons_of_mem _ hx
    · rw [hup] at hlink; cases hlink
  · exact hbounds

theorem taken_port_of_ne {s : State} {a b : AgentId} {q : Request} {rest : List Request} (hb : b ≠ a) :
    (Expect.taken s a q rest).port b = s.port b :=
  Per.get_put_of_ne _ _ hb

/-- What keeps the bounds keeps a port outside a turn as it should be. -/
theorem PortsKept.portOk {s t : State} (h : PortsKept s t) {b : AgentId} (hok : PortOk (s.port b)) : PortOk (t.port b) := by
  rw [portOk_iff] at hok ⊢
  exact ⟨h.bounds b hok.1, (h.reserved b).trans hok.2.1, (h.inExecution b).trans hok.2.2⟩

/-- A whole turn of an agent, by an operation that keeps the bounds. -/
theorem agentTurn_portsOk {s t : State} {a : AgentId} {q : Request} {rest : List Request} {reply : Reply}
    (hturn : AgentTurn s a q rest) (hop : PortsKept (Expect.taken s a q rest) t) (hs : PortsOk s) :
    PortsOk (t.finish a q reply) := by
  refine ⟨fun b => ?_, t.finish_operation a q reply⟩
  by_cases hb : b = a
  · subst hb
    exact State.finish_port_self q reply (hop.bounds b (taken_portBounds hturn hs.1 b))
  · rw [State.finish_port_of_ne q reply hb]
    refine hop.portOk ?_
    rw [taken_port_of_ne hb]
    exact hs.1 b

/-! ### Every command -/

theorem State.begun_ports (r : Requester) (s : State) : (begun r s).ports = s.ports := s.sufferUpset_ports

/-- A whole turn of another requester. -/
theorem turn_portsOk {s t : State} {r : Requester} (hop : PortsKept (begun r s) t) (hs : PortsOk s) : PortsOk (ended t) :=
  ⟨fun b => ((PortsKept.of_eq (State.begun_ports r s)).trans hop).portOk (hs.1 b), rfl⟩

/-- What keeps the bounds and leaves the arbiter keeps the ports as they should be. -/
theorem PortsKept.portsOk {s t : State} (h : PortsKept s t) (harbiter : t.arbiter = s.arbiter) (hs : PortsOk s) :
    PortsOk t :=
  ⟨fun b => h.portOk (hs.1 b), by rw [harbiter]; exact hs.2⟩

theorem State.arrive_arbiter (s : State) (a : AgentId) (x : Arrival) : (s.arrive a x).arbiter = s.arbiter := by
  have hreport (e : Epoch) : (s.frameReport a e).arbiter = s.arbiter := by
    simp only [State.frameReport]
    split <;> rfl
  cases x with
  | keepalive e => exact hreport e
  | ack n e => rw [State.arrive, (State.judgeAck_frame _ a n e).arbiter, hreport]
  | request q =>
    have hanswer (t : State) (r : Result) : (t.answerArrival a q r).1.arbiter = t.arbiter := by
      simp only [State.answerArrival]
      split <;> rfl
    rw [State.arrive, ← hreport q.epoch]
    simp only [State.arriveRequest]
    repeat' split
    all_goals first | rfl | exact hanswer _ _

theorem State.enterSuspect_arbiter (s : State) (a : AgentId) (cause : SuspectCause) :
    (s.enterSuspect a cause).arbiter = s.arbiter := by
  simp only [State.enterSuspect]
  split <;> rfl

theorem State.enterRetiring_arbiter (s : State) (a : AgentId) (cause : RetireCause) (tag : Option Tag) :
    (s.enterRetiring a cause tag).arbiter = s.arbiter := by
  cases cause <;> rfl

theorem State.retransmit_arbiter (s : State) (a : AgentId) : (s.retransmit a).arbiter = s.arbiter := by
  simp only [State.retransmit]
  repeat' split
  · rfl
  · exact (s.resend_frame a _ _).arbiter
  · exact State.enterSuspect_arbiter _ a _

/-- A link-down empties the port (R134). -/
theorem State.linkDown_portsOk {s : State} {a : AgentId} (hup : (s.port a).linkUp = true) (hs : PortsOk s) :
    PortsOk (s.linkDown a) := by
  obtain ⟨hbounds, hreserved, hexec⟩ := (portOk_iff _).mp (hs.1 a)
  have hkept : PortsKept s
      (s.putPort a
        { s.port a with
          linkUp := false, inbound := [], outbound := [], reserved := false, digestPlace := none
          transmitting := none }) :=
    State.putPort_kept
      (fun h => ⟨Nat.zero_le _, Nat.zero_le _, h.replay, h.tags, fun x hx => absurd hx List.not_mem_nil,
        fun _ => ⟨rfl, rfl, rfl, rfl⟩⟩)
      hreserved.symm rfl
  simp only [State.linkDown, hup, if_true]
  refine (State.enterSuspect_portsKept _ a _).portsOk (State.enterSuspect_arbiter _ a _) ?_
  exact (hkept.trans (.of_eq rfl)).portsOk rfl hs

theorem Event.portsOk {s t : State} (h : Event s t) (hs : PortsOk s) : PortsOk t := by
  cases h with
  | nothing => exact hs
  | directoryTurn hserved hop => exact agentTurn_portsOk hserved.1 hop.portsKept hs
  | sessionTurn hturn hop => exact agentTurn_portsOk hturn (hop.portsKept _) hs
  | expiryTurn _ hop =>
    refine turn_portsOk (r := .expiry) (PortsKept.trans ?_ hop.portsKept) hs
    exact .of_eq rfl
  | sweepTurn _ hop => exact turn_portsOk hop.portsKept hs
  | teardownDone _ _ =>
    refine turn_portsOk (r := .sweep) (PortsKept.trans ?_ (State.completeTeardown_portsKept _ _)) hs
    exact .of_eq rfl
  | cleanupDone _ hnone =>
    refine turn_portsOk (r := .sweep) (.of_eq ?_) hs
    simp only [State.cleanupStep, hnone]
    split <;> rfl
  | managementTurn _ _ _ hop _ => exact turn_portsOk (r := .management) (hop.portsKept.trans (.of_eq rfl)) hs
  | managementIdle _ _ => exact turn_portsOk (r := .management) (.of_eq rfl) hs
  | @frame a x hup => exact (s.arrive_portsKept a x hup).portsOk (s.arrive_arbiter a x) hs
  | @port a p hp =>
    refine ⟨fun b => ?_, hs.2⟩
    rw [State.putPort_port]
    split
    · exact hp (hs.1 a)
    · exact hs.1 b
  | linkDown hup => exact State.linkDown_portsOk hup hs
  | graceExpiry _ => exact (s.enterSuspect_portsKept _ _).portsOk (s.enterSuspect_arbiter _ _) hs
  | lapseExpiry _ => exact (s.enterRetiring_portsKept _ _ _).portsOk (s.enterRetiring_arbiter _ _ _) hs
  | holdExpiry _ =>
    exact ((s.emit_frame _).portsKept fun b hb => s.emit_down _ b hb).portsOk (s.emit_frame _).arbiter hs
  | retransmitExpiry _ => exact (s.retransmit_portsKept _).portsOk (s.retransmit_arbiter _) hs
  | fallDue => exact hs
  | management _ => exact hs
  | enabled _ _ => exact hs
  | floorLoaded _ _ _ _ => exact hs
  | evicted _ _ =>
    exact ((s.enterRetiring_portsKept _ _ _).trans (.of_eq rfl)).portsOk (s.enterRetiring_arbiter _ _ _) hs
  | resetReturnsHigh => exact hs

/-- RESET_DIRECTORY keeps of a port its link and the frame in transmission (R148). -/
theorem resetDirectory_portsOk {s : State} (hs : PortsOk s) : PortsOk (ended (begun .management s).resetDirectory) := by
  refine ⟨fun b => ?_, rfl⟩
  have hport : (ended (begun .management s).resetDirectory).port b = (s.port b).restart := by
    change Per.get ((begun .management s).ports.map Port.restart) b = _
    rw [Per.get_map, State.begun_ports]
    rfl
  obtain ⟨hbounds, -, -⟩ := (portOk_iff _).mp (hs.1 b)
  rw [hport]
  exact ⟨Nat.zero_le _, Nat.zero_le _, Nat.zero_le _, List.nodup_nil, rfl, rfl, fun x hx => absurd hx List.not_mem_nil,
    fun hlink => ⟨rfl, rfl, rfl, (hbounds.down hlink).2.2.2⟩⟩

/-- Settles O54: an agent's turn ends what its take begins, and nothing else reserves a place or begins an operation. -/
theorem stepKeepsThePorts : Obligations.StepKeepsThePorts := by
  intro s t hs hstep
  refine step_keeps (P := PortsOk) (fun _ _ h => h) (fun s => ?_) ?_ ?_ hs hstep
  · refine ⟨fun b => ?_, rfl⟩
    have hport : s.powerOn.port b = Port.reset := Per.get_replicate ..
    rw [hport]
    exact ⟨Nat.zero_le _, Nat.zero_le _, Nat.zero_le _, List.nodup_nil, rfl, rfl, fun x hx => absurd hx List.not_mem_nil,
      fun _ => ⟨rfl, rfl, rfl, rfl⟩⟩
  · intro c s t hc hexec hs
    by_cases hreset : c = .resetDirectory
    · subst hreset
      rcases exec_resetDirectory_cases hexec with rfl | ⟨-, -, rfl⟩
      · exact hs
      · exact resetDirectory_portsOk hs
    · exact (exec_event hc hreset hexec).portsOk hs
  · intro s hs
    rcases s.idle_eq with h | ⟨-, h⟩ <;> rw [h] <;> exact hs

end Sys2Proof.Machine
end

section
/-! SUPPORT. What every step keeps of the sessions, the moderators, the TEARDOWN jobs and the configuration values, and the
statement on it (Tables 5-1, 7-2 and 10-2; R96, R112). -/

namespace Sys2Proof.Machine

open Sys2Proof.Expect

/-! ### A moderator beside the session context that an operation leaves (R115, R126 to R128) -/

section
variable {c c' : Session} {m : Moderator}

/-- A moderator reads of the session context its state and its epoch. -/
theorem ModeratorOk.congr (hok : ModeratorOk c m) (hstate : c'.state = c.state) (hepoch : c'.epoch = c.epoch) :
    ModeratorOk c' m := by
  simp only [ModeratorOk, hstate, hepoch] at hok ⊢
  exact hok

/-- The moderator of a session that is not open is EMPTY and accepts nothing. -/
theorem ModeratorOk.closed (hok : ModeratorOk c m) (hstate : c.state ≠ .active) (hstate' : c.state ≠ .suspect) :
    m.accepting = false ∧ m.state = .empty ∧ m.pending = [] ∧ m.inFlight = none ∧ m.overflow = .clear := by
  obtain ⟨haccept, -, -, hclosed, ⟨hempty, -⟩, -⟩ := hok
  have hfalse : m.accepting = false := by
    by_contra h
    rcases haccept.mp (by simpa using h) with h | h
    · exact hstate h
    · exact hstate' h
  obtain ⟨hm, hover⟩ := hclosed hfalse
  exact ⟨hfalse, hm, (hempty hm).1, (hempty hm).2, hover⟩

/-- A moderator that is stalled with its session (R126). -/
theorem ModeratorOk.stall (hok : ModeratorOk c m) (hactive : c.state = .active) (hstate : c'.state = .suspect)
    (hepoch : c'.epoch = c.epoch) :
    ModeratorOk c' { m with state := .stalled, holdDue := none, retransmitDue := none } := by
  obtain ⟨haccept, -, hepoch', -, -, hdigest, ⟨hunreported, hreported⟩, hbound, -, -, hcount⟩ := hok
  have haccepting : m.accepting = true := haccept.mpr (.inl hactive)
  refine ⟨by simp [haccepting, hstate], by simp [hstate], fun h => (hepoch' h).trans hepoch.symm, by simp [haccepting],
    ⟨by simp, by simp, by simp⟩, hdigest, ⟨fun h => ⟨(hunreported h).1, .inr rfl⟩, hreported⟩, hbound, by simp, by simp,
    hcount⟩

/-- A moderator that is retired with its session (R128). -/
theorem ModeratorOk.retire (hstate : c'.state = .retiring) :
    ModeratorOk c'
      { m with
        pending := [], inFlight := none, overflow := .clear, holdDue := none, retransmitDue := none
        retransmitCount := 0, state := .empty, accepting := false } := by
  refine ⟨by simp [hstate], by simp [hstate], by simp, by simp, ⟨by simp, by simp, by simp⟩, by simp [DigestOk],
    ⟨by simp, by simp⟩, by simp [Moderator.occupied, Moderator.inFlightCount], by simp, by simp, by simp⟩

/-- A moderator that is opened with its session (R125). -/
theorem ModeratorOk.open (hok : ModeratorOk c m) (hclosed : c.state = .closed) (hactive : c'.state = .active) :
    ModeratorOk c'
      { m with
        state := .empty, accepting := true, epoch := c'.epoch, number := 0, retransmitCount := 0, overflow := .clear
        holdDue := none, retransmitDue := none } := by
  obtain ⟨-, -, hpending, hflight, -⟩ := hok.closed (by simp [hclosed]) (by simp [hclosed])
  refine ⟨by simp [hactive], by simp [hactive], by simp, by simp, ⟨fun _ => ⟨hpending, hflight⟩, by simp, by simp⟩,
    by simp [DigestOk, hflight], ⟨by simp, by simp⟩, by simp [Moderator.occupied, Moderator.inFlightCount, hpending, hflight],
    by simp, by simp, by simp⟩

/-- The moderator of a session that has closed at teardown completion (R93). -/
theorem ModeratorOk.finishTeardown (hok : ModeratorOk c m) (hstate : c.state = .retiring) (hclosed : c'.state = .closed) :
    ModeratorOk c' m := by
  obtain ⟨hfalse, -⟩ := hok.closed (by simp [hstate]) (by simp [hstate])
  obtain ⟨-, hstall, -, hempty, hrest⟩ := hok
  refine ⟨by simp [hfalse, hclosed], ?_, by simp [hfalse], hempty, hrest⟩
  rw [hstall]
  simp [hstate, hclosed]

/-- A digest in flight is sent again, and the moderator is OUTSTANDING (R123, R127). -/
theorem ModeratorOk.resend {d : Digest} {n : Nat} {due : Time} (hok : ModeratorOk c m)
    (hstate : m.state = .outstanding ∨ m.state = .stalled) (haccepting : m.accepting = true)
    (hflight : m.inFlight = some d) (hn : n ≤ 7) (hactive : c'.state = .active) (hepoch : c'.epoch = c.epoch) :
    ModeratorOk c' { m with state := .outstanding, retransmitCount := n, retransmitDue := some due } := by
  obtain ⟨-, -, hepoch', -, -, hdigest, ⟨hunreported, hreported⟩, hbound, hhold, -, -⟩ := hok
  have hhold' : m.holdDue.isSome = false := by
    by_contra h
    have := hhold ((Bool.not_eq_false _).mp h)
    rcases hstate with h' | h' <;> simp [this] at h'
  exact ⟨by simp [haccepting, hactive], by simp [hactive], fun h => (hepoch' h).trans hepoch.symm, by simp [haccepting],
    ⟨by simp, by simp, by simp [hflight]⟩, hdigest, ⟨fun h => ⟨(hunreported h).1, .inl rfl⟩, hreported⟩, hbound,
    by simp [hhold'], by simp, hn⟩

/-- An accepted ACK of an empty queue leaves the moderator EMPTY (R122). -/
theorem ModeratorOk.acknowledge_empty {d : Digest} (hok : ModeratorOk c m) (hstate : m.state = .outstanding)
    (hflight : m.inFlight = some d) (hpending : m.pending = []) :
    ModeratorOk c { acknowledged d m with state := .empty } := by
  have haccepting : m.accepting = true := by
    by_contra h
    obtain ⟨-, -, -, hclosed, -⟩ := hok
    have := (hclosed (by simpa using h)).1
    simp [hstate] at this
  have hactive := hok.active haccepting (by simp [hstate])
  obtain ⟨-, -, hepoch, -, -, -, ⟨hunreported, hreported⟩, -, hhold, -, -⟩ := hok
  have hclear : (acknowledged d m).overflow = .clear := by
    simp only [acknowledged]
    split
    · rfl
    · next hnot =>
      cases hover : m.overflow with
      | clear => rfl
      | unreported => exact absurd hpending (hunreported hover).1
      | reported =>
        have := hreported hover
        rw [hflight] at this
        exact absurd ⟨by simpa using this, hover⟩ hnot
  have hhold' : m.holdDue = none := by
    by_contra h
    have := hhold (by simpa [Option.isSome_iff_ne_none] using h)
    simp [hstate] at this
  refine ⟨by simp [acknowledged, haccepting, hactive], by simp [hactive], hepoch, by simp [acknowledged, haccepting],
    ⟨fun _ => ⟨hpending, rfl⟩, by simp, by simp⟩, by simp [DigestOk, acknowledged], ⟨by simp [hclear], by simp [hclear]⟩,
    by simp [acknowledged, Moderator.occupied, Moderator.inFlightCount, hpending],
    by simp [acknowledged, hhold'], by simp [acknowledged], by simp [acknowledged]⟩

/-- An accepted ACK clears a reported overflow, the one its digest reported (R114, R122). -/
theorem ModeratorOk.acknowledged_overflow {d : Digest} (hok : ModeratorOk c m) (hflight : m.inFlight = some d) :
    (acknowledged d m).overflow ≠ .reported := by
  obtain ⟨-, -, -, -, -, -, ⟨-, hreported⟩, -⟩ := hok
  simp only [acknowledged]
  split
  · simp
  · next hnot =>
    intro hover
    have := hreported hover
    rw [hflight] at this
    exact hnot ⟨by simpa using this, hover⟩

/-- An accepted ACK leaves a STALLED moderator STALLED (R122). -/
theorem ModeratorOk.acknowledge_stalled {d : Digest} (hok : ModeratorOk c m) (hstate : m.state = .stalled)
    (hflight : m.inFlight = some d) : ModeratorOk c (acknowledged d m) := by
  have hover := hok.acknowledged_overflow hflight
  obtain ⟨haccept, hstall, hepoch, hclosed, -, -, ⟨hunreported, -⟩, hbound, hhold, -, -⟩ := hok
  have haccepting : m.accepting = true := haccept.mpr (.inr (hstall.mp hstate))
  refine ⟨haccept, hstall, hepoch, by simp [acknowledged, haccepting], ⟨?_, ?_, ?_⟩, by simp [DigestOk, acknowledged],
    ⟨fun h => ?_, fun h => absurd h hover⟩, ?_, hhold, by simp [acknowledged, hstate], by simp [acknowledged]⟩
  · intro h; simp [acknowledged, hstate] at h
  · intro h; simp [acknowledged, hstate] at h
  · intro h; simp [acknowledged, hstate] at h
  · refine ⟨(hunreported ?_).1, .inr hstate⟩
    simp only [acknowledged] at h
    split at h
    · cases h
    · exact h
  · simp only [acknowledged, Moderator.occupied, Moderator.inFlightCount, hflight] at hbound ⊢
    omega

/-- A SUSPECT session's moderator with nothing pending and nothing in flight resumes as EMPTY (R127). -/
theorem ModeratorOk.resume_empty (hok : ModeratorOk c m) (hsuspect : c.state = .suspect) (hflight : m.inFlight = none)
    (hpending : m.pending = []) (hactive : c'.state = .active) (hepoch : c'.epoch = c.epoch) :
    ModeratorOk c' { m with state := .empty, retransmitCount := 0 } := by
  have hover := hok.overflow_of_inFlight_none hflight
  obtain ⟨haccept, hstall, hepoch', -, -, -, ⟨hunreported, -⟩, -, hhold, hretransmit, -⟩ := hok
  have haccepting : m.accepting = true := haccept.mpr (.inr hsuspect)
  have hstate : m.state = .stalled := hstall.mpr hsuspect
  have hhold' : m.holdDue.isSome = false := by
    by_contra h
    have := hhold ((Bool.not_eq_false _).mp h)
    simp [hstate] at this
  have hdue' : m.retransmitDue.isSome = false := by
    by_contra h
    have := hretransmit.mp ((Bool.not_eq_false _).mp h)
    simp [hstate] at this
  refine ⟨by simp [haccepting, hactive], by simp [hactive], fun h => (hepoch' h).trans hepoch.symm, by simp [haccepting],
    ⟨fun _ => ⟨hpending, hflight⟩, by simp, by simp⟩, by simp [DigestOk, hflight],
    ⟨fun h => absurd hpending (hunreported h).1, fun h => absurd h hover⟩,
    by simp [Moderator.occupied, Moderator.inFlightCount, hflight, hpending], by simp [hhold'], by simp [hdue'],
    by simp⟩

end

/-! ### The moderators' operations on a state -/

section
variable {s : State} {a : AgentId} {c c' : Session}

@[simp] theorem State.resend_moderator_self (s : State) (a : AgentId) (d : Digest) (n : Nat) :
    (s.resend a d n).moderator a =
      { s.moderator a with
        state := .outstanding, retransmitCount := n
        retransmitDue := some (dueAfter s.clock.ms s.mgmt.config.retransmitInterval) } := by
  simp only [State.resend, State.handDigest_moderator, State.count_moderator, State.putModerator_moderator_self]

theorem State.resend_one (s : State) (a : AgentId) (d : Digest) (n : Nat) : OneModerator a s (s.resend a d n) :=
  (s.putModerator_one a _).trans (State.handDigest_one (State.count _ _) a _)

theorem State.flushModerator_moderatorOk (hok : ModeratorOk c (s.moderator a)) :
    ModeratorOk c ((s.flushModerator a).moderator a) := by
  simp only [State.flushModerator]
  split
  · next hstate =>
    rw [State.emit_moderator_self]
    exact (hok.collectingOk hstate).afterEmission _
  all_goals exact hok

theorem State.flushModerator_one (s : State) (a : AgentId) : OneModerator a s (s.flushModerator a) := by
  simp only [State.flushModerator]
  split
  · exact s.emit_one a
  all_goals exact .refl a s

/-- An accepted ACK (R122): the digest in flight is the one acknowledged, so the moderator is OUTSTANDING or STALLED. -/
theorem State.acceptAck_moderatorOk {d : Digest} (hok : ModeratorOk c (s.moderator a))
    (hflight : (s.moderator a).inFlight = some d) : ModeratorOk c ((s.acceptAck a d).moderator a) := by
  cases hstate : (s.moderator a).state with
  | outstanding =>
    by_cases hpending : (s.moderator a).pending = []
    · rw [State.acceptAck_of_outstanding_empty hstate hpending]
      have := hok.acknowledge_empty hstate hflight hpending
      rwa [← State.putModerator_eq_wroteModerator, State.putModerator_moderator_self]
    · rw [State.acceptAck_of_outstanding_pending hstate hpending, ← State.putModerator_eq_wroteModerator]
      have haccepting : (s.moderator a).accepting = true := by
        by_contra h
        obtain ⟨-, -, -, hclosed, -⟩ := hok
        have := (hclosed (by simpa using h)).1
        simp [hstate] at this
      have hover := hok.acknowledged_overflow hflight
      have hactive := hok.active haccepting (by simp [hstate])
      obtain ⟨-, -, hepoch, -, -, -, -, hbound, -, -, -⟩ := hok
      refine State.enterCollecting_moderatorOk ?_ hactive ?_ ?_ ?_ ?_ ?_ ?_ ?_ <;>
        rw [State.putModerator_moderator_self]
      · exact haccepting
      · exact hepoch haccepting
      · exact hpending
      · simp only [Moderator.occupied] at hbound
        exact Nat.le_trans (Nat.le_add_right ..) hbound
      · rfl
      · exact hover
      · rfl
      · exact Nat.zero_le _
  | stalled =>
    rw [State.acceptAck_of_stalled hstate, ← State.putModerator_eq_wroteModerator, State.putModerator_moderator_self]
    exact hok.acknowledge_stalled hstate hflight
  | empty =>
    obtain ⟨-, -, -, -, ⟨hempty, -⟩, -⟩ := hok
    rw [(hempty hstate).2] at hflight
    cases hflight
  | collecting =>
    obtain ⟨-, -, -, -, ⟨-, hcollect, -⟩, -⟩ := hok
    rw [(hcollect hstate).2] at hflight
    cases hflight

theorem State.judgeAck_moderatorOk (n : Byte) (e : Epoch) (hok : ModeratorOk c (s.moderator a)) :
    ModeratorOk c ((s.judgeAck a n e).moderator a) := by
  simp only [State.judgeAck]
  repeat' split
  · exact hok
  · exact hok
  · next d hflight _ => exact State.acceptAck_moderatorOk hok hflight
  all_goals exact hok

theorem State.acceptAck_one (s : State) (a : AgentId) (d : Digest) : OneModerator a s (s.acceptAck a d) := by
  unfold State.acceptAck
  dsimp only
  split
  · split
    · exact s.putModerator_one a _
    · exact (s.putModerator_one a _).trans (State.enterCollecting_one _ a)
  all_goals exact s.putModerator_one a _

theorem State.judgeAck_one (s : State) (a : AgentId) (n : Byte) (e : Epoch) : OneModerator a s (s.judgeAck a n e) := by
  simp only [State.judgeAck]
  repeat' split
  · exact fun _ _ => rfl
  · exact .refl a s
  · exact s.acceptAck_one a _
  all_goals exact fun _ _ => rfl

/-- The moderator of a SUSPECT session resumes with the session (R127). -/
theorem State.resumeModerator_moderatorOk (hok : ModeratorOk c (s.moderator a)) (hsuspect : c.state = .suspect)
    (hactive : c'.state = .active) (hepoch : c'.epoch = c.epoch) :
    ModeratorOk c' ((s.resumeModerator a).moderator a) := by
  have haccepting : (s.moderator a).accepting = true := hok.1.mpr (.inr hsuspect)
  have hstate : (s.moderator a).state = .stalled := hok.2.1.mpr hsuspect
  simp only [State.resumeModerator]
  split
  · next d hflight =>
    rw [State.resend_moderator_self]
    exact hok.resend (.inr hstate) haccepting hflight (Nat.zero_le _) hactive hepoch
  · next hflight =>
    split
    · next hpending =>
      rw [State.putModerator_moderator_self]
      exact hok.resume_empty hsuspect hflight (List.isEmpty_iff.mp hpending) hactive hepoch
    · next hpending =>
      have hover := hok.overflow_of_inFlight_none hflight
      have hdue := hok.retransmitDue_none (by simp [hstate])
      obtain ⟨-, -, hepoch', -, -, -, -, hbound, -, -, -⟩ := hok
      refine State.enterCollecting_moderatorOk ?_ hactive ?_ ?_ ?_ ?_ ?_ ?_ ?_ <;>
        rw [State.putModerator_moderator_self]
      · exact haccepting
      · exact (hepoch' haccepting).trans hepoch.symm
      · exact fun h => hpending (List.isEmpty_iff.mpr h)
      · simp only [Moderator.occupied] at hbound
        exact Nat.le_trans (Nat.le_add_right ..) hbound
      · exact hflight
      · exact hover
      · exact hdue
      · exact Nat.zero_le _

theorem State.resumeModerator_one (s : State) (a : AgentId) : OneModerator a s (s.resumeModerator a) := by
  simp only [State.resumeModerator]
  repeat' split
  · exact s.resend_one a _ _
  · exact s.putModerator_one a _
  · exact (s.putModerator_one a _).trans (State.enterCollecting_one _ a)

end

end Sys2Proof.Machine
end

section
/-! SUPPORT. What every step keeps of the sessions, the moderators, the TEARDOWN jobs and the configuration values, and the
statement on it (Tables 5-1, 7-2 and 10-2; R96, R112). -/

namespace Sys2Proof.Machine

open Sys2Proof.Expect

/-! ### What leaves every session context -/

/-- What leads from `s` to `t` leaves the session contexts and the TEARDOWN jobs, and keeps moderators and configuration
values in order. -/
structure SessionFrame (s t : State) : Prop where
  sessions : t.sessions = s.sessions
  moderator : ∀ b c, ModeratorOk c (s.moderator b) → ModeratorOk c (t.moderator b)
  jobs : ∀ b, t.sweep.count (.teardown b) = s.sweep.count (.teardown b)
  config : ConfigOk s.mgmt.config → ConfigOk t.mgmt.config

theorem SessionFrame.trans {s t u : State} (h : SessionFrame s t) (h' : SessionFrame t u) : SessionFrame s u where
  sessions := h'.sessions.trans h.sessions
  moderator b c hc := h'.moderator b c (h.moderator b c hc)
  jobs b := (h'.jobs b).trans (h.jobs b)
  config hc := h'.config (h.config hc)

theorem SessionFrame.of_eq {s t : State} (hsessions : t.sessions = s.sessions) (hmoderators : t.moderators = s.moderators)
    (hsweep : t.sweep = s.sweep) (hconfig : t.mgmt.config = s.mgmt.config) : SessionFrame s t where
  sessions := hsessions
  moderator b c hc := by simpa only [State.moderator, hmoderators] using hc
  jobs b := by rw [hsweep]
  config hc := by rwa [hconfig]

theorem SessionFrame.session {s t : State} (h : SessionFrame s t) (b : AgentId) : t.session b = s.session b := by
  simp only [State.session, h.sessions]

theorem SessionFrame.sessionsOk {s t : State} (h : SessionFrame s t) (hs : SessionsOk s) : SessionsOk t := by
  obtain ⟨hagents, hjobs, hconfig⟩ := hs
  refine ⟨fun b => ?_, fun b => ?_, h.config hconfig⟩
  · rw [h.session b]
    exact ⟨(hagents b).1, h.moderator b _ (hagents b).2⟩
  · rw [h.jobs b, h.session b]
    exact hjobs b

theorem EngineWork.sessionFrame {s t : State} (h : EngineWork s t) : SessionFrame s t where
  sessions := h.sessions
  moderator := h.moderator
  jobs b := by rw [h.sweep]
  config hc := by rw [h.mgmt]; exact hc

/-- Operations of the moderator of `a` alone. -/
theorem ModeratorFrame.sessionFrame {s t : State} {a : AgentId} (h : ModeratorFrame s t) (hone : OneModerator a s t)
    (hself : ∀ c, ModeratorOk c (s.moderator a) → ModeratorOk c (t.moderator a)) : SessionFrame s t where
  sessions := h.sessions
  moderator b c hc := by
    by_cases hb : b = a
    · subst hb; exact hself c hc
    · rwa [hone b hb]
  jobs b := by rw [h.sweep]
  config hc := by rw [h.mgmt]; exact hc

section
variable (s : State)

theorem State.begun_sessionFrame (r : Requester) : SessionFrame s (begun r s) :=
  .of_eq s.sufferUpset_sessions (by simp only [begun]; rw [State.sufferUpset_eq]) (State.begun_sweep r s)
    (congrArg Management.config s.sufferUpset_mgmt)

theorem taken_sessionFrame (a : AgentId) (q : Request) (rest : List Request) : SessionFrame s (Expect.taken s a q rest) :=
  (s.begun_sessionFrame (.agent a)).trans (.of_eq rfl rfl rfl (by
    rw [taken_mgmt_config]
    exact (congrArg Management.config s.sufferUpset_mgmt).symm))

theorem ended_sessionFrame : SessionFrame s (ended s) := .of_eq rfl rfl rfl rfl

theorem State.finish_sessionFrame (a : AgentId) (q : Request) (reply : Reply) : SessionFrame s (s.finish a q reply) := by
  cases reply with
  | none => exact .of_eq rfl rfl rfl rfl
  | executed r => rw [State.finish_executed]; exact .of_eq rfl rfl rfl rfl
  | refused r => exact .of_eq rfl rfl rfl rfl

theorem State.answerArrival_sessionFrame (a : AgentId) (q : RawRequest) (r : Result) :
    SessionFrame s (s.answerArrival a q r).1 := by
  simp only [State.answerArrival]
  split <;> exact .of_eq rfl rfl rfl rfl

theorem State.arriveRequest_sessionFrame (a : AgentId) (q : RawRequest) : SessionFrame s (s.arriveRequest a q) := by
  simp only [State.arriveRequest]
  repeat' split
  · exact (s.answerArrival_sessionFrame a q _).trans (.of_eq rfl rfl rfl rfl)
  · exact s.answerArrival_sessionFrame a q _
  · exact .of_eq rfl rfl rfl rfl
  · exact s.answerArrival_sessionFrame a q _
  · exact s.answerArrival_sessionFrame a q _
  · exact .of_eq rfl rfl rfl rfl
  · exact s.answerArrival_sessionFrame a q _

theorem State.judgeAck_sessionFrame (a : AgentId) (n : Byte) (e : Epoch) : SessionFrame s (s.judgeAck a n e) :=
  (s.judgeAck_frame a n e).sessionFrame (s.judgeAck_one a n e) fun _ hc => State.judgeAck_moderatorOk n e hc

theorem State.flushModerator_sessionFrame (a : AgentId) : SessionFrame s (s.flushModerator a) :=
  (s.flushModerator_frame a).sessionFrame (s.flushModerator_one a) fun _ hc => State.flushModerator_moderatorOk hc

theorem State.emit_sessionFrame {a : AgentId} (hstate : (s.moderator a).state = .collecting) :
    SessionFrame s (s.emit a) :=
  (s.emit_frame a).sessionFrame (s.emit_one a) fun _ hc => by
    rw [State.emit_moderator_self]
    exact (hc.collectingOk hstate).afterEmission _

end

theorem OpOutcome.sessionFrame {u t : State} (h : OpOutcome u t) : SessionFrame u t := by
  cases h with
  | work hwork => exact hwork.sessionFrame
  | recordFault _ =>
    rw [State.quarantine_eq_quarantined]
    simp only [quarantined]
    split
    · exact
        { sessions := rfl, moderator := fun _ _ hc => hc, config := id
          jobs := fun b => by simp }
    · exact .of_eq rfl rfl rfl rfl
  | memberFault => exact .of_eq rfl rfl rfl rfl

/-! ### What moves one session -/

/-- The rest of the condition on one agent: its session, its moderator and its TEARDOWN jobs. -/
def AgentOk (s : State) (a : AgentId) : Prop :=
  SessionOk (s.session a) ∧ ModeratorOk (s.session a) (s.moderator a) ∧
    s.sweep.count (.teardown a) = if (s.session a).state = .retiring then 1 else 0

theorem sessionsOk_iff (s : State) : SessionsOk s ↔ (∀ a, AgentOk s a) ∧ ConfigOk s.mgmt.config := by
  constructor
  · rintro ⟨hagents, hjobs, hconfig⟩
    exact ⟨fun a => ⟨(hagents a).1, (hagents a).2, hjobs a⟩, hconfig⟩
  · rintro ⟨hagents, hconfig⟩
    refine ⟨fun a => ?_, fun a => ?_, hconfig⟩
    · obtain ⟨hsession, hmoderator, -⟩ := hagents a
      exact ⟨hsession, hmoderator⟩
    · obtain ⟨-, -, hjobs⟩ := hagents a
      exact hjobs

theorem SessionsOk.agent {s : State} (hs : SessionsOk s) (a : AgentId) : AgentOk s a := ((sessionsOk_iff s).mp hs).1 a

/-- A move of agent `a` leaves the other agents' sessions, moderators and TEARDOWN jobs. -/
structure AgentMove (a : AgentId) (s t : State) : Prop where
  session : ∀ b, b ≠ a → t.session b = s.session b
  moderator : OneModerator a s t
  jobs : ∀ b, b ≠ a → t.sweep.count (.teardown b) = s.sweep.count (.teardown b)
  config : t.mgmt.config = s.mgmt.config

theorem AgentMove.sessionsOk {a : AgentId} {s t : State} (h : AgentMove a s t) (hself : AgentOk t a) (hs : SessionsOk s) :
    SessionsOk t := by
  obtain ⟨hagents, hconfig⟩ := (sessionsOk_iff s).mp hs
  refine (sessionsOk_iff t).mpr ⟨fun b => ?_, by rwa [h.config]⟩
  by_cases hb : b = a
  · subst hb; exact hself
  · have := hagents b
    unfold AgentOk at this ⊢
    rwa [h.session b hb, h.moderator b hb, h.jobs b hb]

theorem nextEpoch_ne_zero (e : Epoch) : nextEpoch e ≠ 0 := by
  simp only [nextEpoch]
  split
  · decide
  · next h => bv_omega

section
variable {s : State} {a : AgentId}

theorem State.putSession_session_of_ne (c : Session) {b : AgentId} (hb : b ≠ a) :
    (s.putSession a c).session b = s.session b := by
  rw [State.putSession_session, if_neg hb]

theorem State.putSession_move (c : Session) : AgentMove a s (s.putSession a c) where
  session _ hb := s.putSession_session_of_ne c hb
  moderator _ _ := rfl
  jobs _ _ := rfl
  config := rfl

/-- A grace timer started again (R81, R83). -/
theorem State.putSession_graced_sessionsOk (hactive : (s.session a).state = .active) (hs : SessionsOk s) :
    SessionsOk (s.putSession a { s.session a with graceDue := s.graceStart }) := by
  refine (State.putSession_move _).sessionsOk ?_ hs
  obtain ⟨⟨hgrace, hrest⟩, hmoderator, hjobs⟩ := hs.agent a
  unfold AgentOk
  rw [State.putSession_session_self]
  exact ⟨⟨by simp [State.graceStart, hactive], hrest⟩, hmoderator.congr rfl rfl, hjobs⟩

theorem State.frameReport_sessionsOk (e : Epoch) (hs : SessionsOk s) : SessionsOk (s.frameReport a e) := by
  simp only [State.frameReport]
  split
  · next h => exact State.putSession_graced_sessionsOk h.1 hs
  · exact hs

theorem State.enterSuspect_sessionsOk (cause : SuspectCause) (hs : SessionsOk s) :
    SessionsOk (s.enterSuspect a cause) := by
  simp only [State.enterSuspect]
  split
  · next hactive =>
    refine AgentMove.sessionsOk
      ⟨fun b hb => s.putSession_session_of_ne _ hb, (State.putSession_move _).moderator.trans (State.putModerator_one _ _ _),
        fun _ _ => rfl, rfl⟩ ?_ hs
    obtain ⟨hsession, hmoderator, hjobs⟩ := hs.agent a
    obtain ⟨-, -, hclose, -, -, hretire, -, hepoch⟩ := hsession
    unfold AgentOk
    simp only [State.stallModerator, State.putModerator_session, State.putSession_session_self,
      State.putModerator_moderator_self, State.putSession_moderator, State.putModerator_sweep, State.putSession_sweep]
    refine ⟨⟨by simp, by simp [State.lapseStart], ?_, by simp, by simp, fun _ => hretire (.inl hactive), by simp,
      fun _ => hepoch (by simp [hactive])⟩, hmoderator.stall hactive rfl rfl, ?_⟩
    · rw [hclose]; simp [hactive]
    · rw [hjobs]; simp [hactive]
  · exact hs

theorem State.enterRetiring_sweep (s : State) (a : AgentId) (cause : RetireCause) (tag : Option Tag) :
    (s.enterRetiring a cause tag).sweep = s.sweep ++ [.teardown a] := by
  cases cause <;> rfl

theorem State.enterRetiring_session_self (s : State) (a : AgentId) (cause : RetireCause) (tag : Option Tag) :
    (s.enterRetiring a cause tag).session a =
      { s.session a with
        state := .retiring, retireCause := some cause, graceDue := none, lapseDue := none, closeTag := tag } := by
  cases cause <;> exact s.putSession_session_self a _

theorem State.enterRetiring_session_of_ne (cause : RetireCause) (tag : Option Tag) {b : AgentId} (hb : b ≠ a) :
    (s.enterRetiring a cause tag).session b = s.session b := by
  cases cause <;> exact s.putSession_session_of_ne _ hb

theorem State.enterRetiring_moderator_self (s : State) (a : AgentId) (cause : RetireCause) (tag : Option Tag) :
    (s.enterRetiring a cause tag).moderator a =
      { s.moderator a with
        pending := [], inFlight := none, overflow := .clear, holdDue := none, retransmitDue := none
        retransmitCount := 0, state := .empty, accepting := false } := by
  cases cause <;> exact State.putModerator_moderator_self _ a _

theorem State.enterRetiring_one (s : State) (a : AgentId) (cause : RetireCause) (tag : Option Tag) :
    OneModerator a s (s.enterRetiring a cause tag) := by
  cases cause <;> exact State.putModerator_one _ a _

theorem count_teardown_append (l : List SweepJob) (a b : AgentId) :
    (l ++ [SweepJob.teardown a]).count (.teardown b) = l.count (.teardown b) + if b = a then 1 else 0 := by
  by_cases hb : b = a
  · simp [hb]
  · simp [hb, Ne.symm hb]

/-- Entry into RETIRING, with a close tag exactly for a CLOSE (R90, R92). -/
theorem State.enterRetiring_sessionsOk {cause : RetireCause} {tag : Option Tag}
    (hopen : (s.session a).state = .active ∨ (s.session a).state = .suspect)
    (htag : tag.isSome = true ↔ cause = .agentClose) (hs : SessionsOk s) : SessionsOk (s.enterRetiring a cause tag) := by
  refine AgentMove.sessionsOk
    ⟨fun b hb => State.enterRetiring_session_of_ne cause tag hb, s.enterRetiring_one a cause tag, fun b hb => ?_, ?_⟩ ?_ hs
  · rw [State.enterRetiring_sweep, count_teardown_append, if_neg hb, Nat.add_zero]
  · cases cause <;> rfl
  · obtain ⟨hsession, hmoderator, hjobs⟩ := hs.agent a
    obtain ⟨-, -, -, -, -, -, -, hepoch⟩ := hsession
    have hnot : (s.session a).state ≠ .closed ∧ (s.session a).state ≠ .retiring := by
      rcases hopen with h | h <;> simp [h]
    unfold AgentOk
    rw [State.enterRetiring_session_self, State.enterRetiring_moderator_self, State.enterRetiring_sweep,
      count_teardown_append, hjobs, if_neg hnot.2]
    exact ⟨⟨by simp, by simp, by simp [htag], by simp, by simp, by simp, by simp, fun _ => hepoch hnot.1⟩, .retire rfl,
      by simp⟩

theorem State.openSessionOf_sessionsOk (hclosed : (s.session a).state = .closed) (hs : SessionsOk s) :
    SessionsOk (s.openSessionOf a) := by
  refine AgentMove.sessionsOk
    ⟨fun b hb => s.putSession_session_of_ne _ hb, State.putModerator_one _ _ _, fun _ _ => rfl, rfl⟩ ?_ hs
  obtain ⟨hsession, hmoderator, hjobs⟩ := hs.agent a
  obtain ⟨-, -, hclose, -, -, -, -, -⟩ := hsession
  unfold AgentOk
  simp only [State.openSessionOf, State.editCounts_eq, State.openModerator, State.putPort_session,
    State.putPort_moderator, State.putPort_sweep, State.putModerator_session, State.putModerator_moderator_self,
    State.putModerator_sweep, State.putCounts_session, State.putCounts_moderator, State.putCounts_sweep,
    State.putSession_session_self, State.putSession_moderator, State.putSession_sweep]
  refine ⟨⟨by simp [State.graceStart], by simp, ?_, by simp, by simp, by simp, by simp, fun _ => nextEpoch_ne_zero _⟩,
    hmoderator.open (c' := { s.session a with
      state := .active, epoch := nextEpoch (s.session a).epoch, suspectCause := none, retireCause := none
      lapseDue := none, graceDue := s.graceStart }) hclosed rfl, ?_⟩
  · rw [hclose]; simp [hclosed]
  · rw [hjobs]; simp [hclosed]

theorem State.resumeModerator_sweep (s : State) (a : AgentId) : (s.resumeModerator a).sweep = s.sweep :=
  (s.resumeModerator_frame a).sweep

/-- A SUSPECT session returns to ACTIVE (R81). -/
theorem State.resume_sessionsOk (hsuspect : (s.session a).state = .suspect) (hs : SessionsOk s) :
    SessionsOk
      ((s.putSession a
        { s.session a with
          state := .active, lapseDue := none, suspectCause := none, graceDue := s.graceStart }).resumeModerator a) := by
  have hframe := State.resumeModerator_frame
    (s.putSession a { s.session a with
      state := .active, lapseDue := none, suspectCause := none, graceDue := s.graceStart }) a
  refine AgentMove.sessionsOk
    ⟨fun b hb => (hframe.session b).trans (s.putSession_session_of_ne _ hb), State.resumeModerator_one _ _,
      fun b _ => by rw [hframe.sweep]; rfl, by rw [hframe.mgmt]; rfl⟩ ?_ hs
  obtain ⟨hsession, hmoderator, hjobs⟩ := hs.agent a
  obtain ⟨-, -, hclose, -, -, hretire, -, hepoch⟩ := hsession
  unfold AgentOk
  rw [hframe.session, hframe.sweep, State.putSession_session_self]
  refine ⟨⟨by simp [State.graceStart], by simp, ?_, by simp, by simp, fun _ => hretire (.inr hsuspect), by simp,
    fun _ => hepoch (by simp [hsuspect])⟩, State.resumeModerator_moderatorOk hmoderator hsuspect rfl rfl, ?_⟩
  · rw [hclose]; simp [hsuspect]
  · exact hjobs.trans (by simp [hsuspect])

theorem SessionWork.sessionsOk {t : State} (h : SessionWork a s t) (hs : SessionsOk s) : SessionsOk t := by
  cases h with
  | unchanged => exact hs
  | opened hclosed _ => exact State.openSessionOf_sessionsOk hclosed hs
  | graced hactive => exact State.putSession_graced_sessionsOk hactive hs
  | resumed hsuspect => exact State.resume_sessionsOk hsuspect hs
  | retired tag hopen => exact State.enterRetiring_sessionsOk hopen (by simp) hs
  | flushed => exact (s.flushModerator_sessionFrame a).sessionsOk hs

/-! ### Timers, frames and teardown -/

/-- A moderator with a digest in flight or pending that is not stalled belongs to an ACTIVE session. -/
theorem SessionsOk.active_of_outstanding (hs : SessionsOk s) (hstate : (s.moderator a).state = .outstanding) :
    (s.session a).state = .active := by
  obtain ⟨-, hmoderator, -⟩ := hs.agent a
  have haccepting : (s.moderator a).accepting = true := by
    by_contra h
    obtain ⟨-, -, -, hclosed, -⟩ := hmoderator
    have := (hclosed (by simpa using h)).1
    simp [hstate] at this
  exact hmoderator.active haccepting (by simp [hstate])

/-- Exhausted retries stall the moderator as the entry into SUSPECT does (R124, R126). -/
theorem State.exhaustRetries_of_active (hactive : (s.session a).state = .active) :
    s.exhaustRetries a = s.enterSuspect a .noAck := by
  simp only [State.exhaustRetries, State.enterSuspect, State.putModerator_session, hactive, if_true,
    State.stallModerator, State.putSession_moderator, State.putModerator_moderator_self]
  simp only [State.putModerator, State.putSession, Per.put_put]
  rfl

theorem ConfigOk.retransmitLimit_le {c : ConfigValues} (h : ConfigOk c) : c.retransmitLimit.toNat ≤ 7 := by
  obtain ⟨-, -, -, -, -, hlimit, -⟩ := h
  simp only [configInRange, configRange, Bool.and_eq_true] at hlimit
  exact of_decide_eq_true hlimit.2

theorem State.retransmit_sessionsOk (hstate : (s.moderator a).state = .outstanding) (hs : SessionsOk s) :
    SessionsOk (s.retransmit a) := by
  have hactive := hs.active_of_outstanding hstate
  simp only [State.retransmit]
  split
  · exact hs
  · next d hflight =>
    split
    · next hcount =>
      have hframe := s.resend_frame a d ((s.moderator a).retransmitCount + 1)
      refine AgentMove.sessionsOk ⟨fun b _ => hframe.session b, s.resend_one a d _, fun b _ => by rw [hframe.sweep],
        by rw [hframe.mgmt]⟩ ?_ hs
      obtain ⟨hsession, hmoderator, hjobs⟩ := hs.agent a
      obtain ⟨-, hconfig⟩ := (sessionsOk_iff s).mp hs
      unfold AgentOk
      rw [hframe.session, hframe.sweep, State.resend_moderator_self]
      have hlimit := hconfig.retransmitLimit_le
      exact ⟨hsession, hmoderator.resend (.inl hstate) (hmoderator.1.mpr (.inl hactive)) hflight (by omega) hactive rfl,
        hjobs⟩
    · rw [State.exhaustRetries_of_active hactive]
      exact State.enterSuspect_sessionsOk _ hs

theorem State.linkDown_sessionsOk (hs : SessionsOk s) : SessionsOk (s.linkDown a) := by
  simp only [State.linkDown]
  split
  · refine State.enterSuspect_sessionsOk _ (SessionFrame.sessionsOk ?_ hs)
    exact .of_eq rfl rfl rfl rfl
  · exact hs

theorem State.arrive_sessionsOk (x : Arrival) (hs : SessionsOk s) : SessionsOk (s.arrive a x) := by
  cases x with
  | keepalive e => exact State.frameReport_sessionsOk e hs
  | ack n e => exact (State.judgeAck_sessionFrame _ a n e).sessionsOk (State.frameReport_sessionsOk e hs)
  | request q => exact (State.arriveRequest_sessionFrame _ a q).sessionsOk (State.frameReport_sessionsOk _ hs)

/-- Teardown completion (R74, R93), as one update. -/
theorem State.completeTeardown_eq_closed (s : State) (a : AgentId) : s.completeTeardown a = closed a s := by
  have hkept : Per.put s.ports a { s.port a with outbound := (s.port a).outbound ++ [] } = s.ports := by
    rw [List.append_nil]
    exact Per.put_get s.ports a
  cases hcause : (s.session a).retireCause with
  | none =>
    simp only [State.completeTeardown, closed, hcause, hkept]
    rfl
  | some cause =>
    cases cause with
    | lapsed =>
      simp only [State.completeTeardown, closed, hcause, hkept]
      rfl
    | evicted =>
      simp only [State.completeTeardown, closed, hcause, hkept]
      rfl
    | agentClose =>
      cases htag : (s.session a).closeTag with
      | none =>
        simp only [State.completeTeardown, closed, hcause, htag, hkept]
        rfl
      | some t =>
        simp only [State.completeTeardown, closed, hcause, htag]
        by_cases hroom :
            (s.port a).linkUp = true ∧ (s.port a).outbound.length + (if (s.port a).reserved then 1 else 0) < 16
        · have hroom' : (s.port a).linkUp ∧ (s.port a).hasRoom := ⟨hroom.1, decide_eq_true hroom.2⟩
          simp only [State.putSession_port, hroom', hroom, and_self, if_true]
          rfl
        · have hroom' : ¬ ((s.port a).linkUp ∧ (s.port a).hasRoom) := fun h => hroom ⟨h.1, of_decide_eq_true h.2⟩
          simp only [State.putSession_port, hroom', hroom, if_false, hkept]
          rfl

/-- The head TEARDOWN job leaves the queue and its session closes (R93, R104). -/
theorem State.completeTeardown_sessionsOk {rest : List SweepJob} (hjob : s.sweep = .teardown a :: rest)
    (hs : SessionsOk s) : SessionsOk (s.dropJob.completeTeardown a) := by
  obtain ⟨hsession, hmoderator, hjobs⟩ := hs.agent a
  have hretiring : (s.session a).state = .retiring := by
    by_contra h
    rw [if_neg h, hjob, List.count_cons_self] at hjobs
    omega
  rw [hretiring, if_pos rfl, hjob, List.count_cons_self] at hjobs
  have hnone : rest.count (.teardown a) = 0 := by omega
  rw [State.completeTeardown_eq_closed]
  refine AgentMove.sessionsOk ⟨fun b hb => s.putSession_session_of_ne _ hb, fun _ _ => rfl, fun b hb => ?_, rfl⟩ ?_ hs
  · change s.sweep.tail.count _ = _
    rw [hjob, List.tail_cons, List.count_cons_of_ne (by simp [Ne.symm hb])]
  · obtain ⟨hgrace, hlapse, -, -, -, -, -, -⟩ := hsession
    have hself : (closed a s.dropJob).session a = { s.session a with state := .closed, closeTag := none } :=
      s.putSession_session_self a _
    have hsweep : (closed a s.dropJob).sweep = rest := by
      change s.sweep.tail = _
      rw [hjob, List.tail_cons]
    unfold AgentOk
    rw [hself, hsweep, hnone]
    refine ⟨⟨?_, ?_, by simp, by simp, by simp, by simp, by simp, by simp⟩, hmoderator.finishTeardown hretiring rfl,
      by simp⟩
    · rw [hgrace]; simp [hretiring]
    · rw [hlapse]; simp [hretiring]

end

/-! ### Every step -/

theorem cleanupDone_sessionFrame {u : State} {h : Nat} {rest : List SweepJob} (hjob : u.sweep = .cleanup h :: rest)
    (hnone : u.memberNaming h = none) : SessionFrame u (u.cleanupStep h) := by
  have hdrop : SessionFrame u u.dropJob :=
    { sessions := rfl, moderator := fun _ _ hc => hc, config := id
      jobs := fun b => by
        change u.sweep.tail.count _ = _
        rw [hjob, List.tail_cons, List.count_cons_of_ne (by simp)] }
  simp only [State.cleanupStep, hnone]
  split
  · exact hdrop.trans (.of_eq rfl rfl rfl rfl)
  · exact hdrop

theorem Event.sessionsOk {s t : State} (h : Event s t) (hs : SessionsOk s) : SessionsOk t := by
  cases h with
  | nothing => exact hs
  | directoryTurn _ hop =>
    exact (((taken_sessionFrame s _ _ _).trans hop.sessionFrame).trans (State.finish_sessionFrame _ _ _ _)).sessionsOk hs
  | sessionTurn _ hop =>
    exact (State.finish_sessionFrame _ _ _ _).sessionsOk (hop.sessionsOk ((taken_sessionFrame s _ _ _).sessionsOk hs))
  | @expiryTurn e rest t _ hop =>
    have hpop : SessionFrame (begun .expiry s)
        { begun .expiry s with deadlines := { s.deadlines with expiry := rest } } := .of_eq rfl rfl rfl rfl
    exact ((((s.begun_sessionFrame _).trans hpop).trans hop.sessionFrame).trans (ended_sessionFrame _)).sessionsOk hs
  | sweepTurn _ hop =>
    exact (((s.begun_sessionFrame _).trans hop.sessionFrame).trans (ended_sessionFrame _)).sessionsOk hs
  | @teardownDone a rest hturn _ =>
    have hjob : (begun .sweep s).sweep = .teardown a :: rest := (State.begun_sweep _ s).trans hturn.2.2
    exact (ended_sessionFrame _).sessionsOk
      (State.completeTeardown_sessionsOk hjob ((s.begun_sessionFrame _).sessionsOk hs))
  | @cleanupDone h rest hturn hnone =>
    have hjob : (begun .sweep s).sweep = .cleanup h :: rest := (State.begun_sweep _ s).trans hturn.2.2
    exact (((s.begun_sessionFrame _).trans (cleanupDone_sessionFrame hjob hnone)).trans (ended_sessionFrame _)).sessionsOk
      hs
  | @managementTurn c t m _ _ _ hop hconfig =>
    have hframe : SessionFrame t (ended { t with mgmt := m }) := .of_eq rfl rfl rfl hconfig
    exact (((s.begun_sessionFrame _).trans hop.sessionFrame).trans hframe).sessionsOk hs
  | @managementIdle c m _ hconfig =>
    have hframe : SessionFrame (begun .management s) (ended { begun .management s with mgmt := m }) :=
      .of_eq rfl rfl rfl (hconfig.trans (congrArg Management.config s.sufferUpset_mgmt).symm)
    exact ((s.begun_sessionFrame .management).trans hframe).sessionsOk hs
  | frame x _ => exact State.arrive_sessionsOk x hs
  | port _ => exact SessionFrame.sessionsOk (s := s) (.of_eq rfl rfl rfl rfl) hs
  | linkDown _ => exact State.linkDown_sessionsOk hs
  | graceExpiry _ => exact State.enterSuspect_sessionsOk _ hs
  | lapseExpiry hsuspect => exact State.enterRetiring_sessionsOk (.inr hsuspect) (by simp) hs
  | holdExpiry hstate => exact (s.emit_sessionFrame hstate).sessionsOk hs
  | retransmitExpiry hstate => exact State.retransmit_sessionsOk hstate hs
  | fallDue => exact SessionFrame.sessionsOk (s := s) (.of_eq rfl rfl rfl rfl) hs
  | management hconfig =>
    exact SessionFrame.sessionsOk (s := s)
      { sessions := rfl, moderator := fun _ _ hc => hc, jobs := fun _ => rfl, config := hconfig } hs
  | enabled _ hconfig => exact SessionFrame.sessionsOk (s := s) (.of_eq rfl rfl rfl hconfig) hs
  | floorLoaded _ _ _ hconfig => exact SessionFrame.sessionsOk (s := s) (.of_eq rfl rfl rfl hconfig) hs
  | @evicted a m hopen hconfig =>
    have hframe : SessionFrame (s.enterRetiring a .evicted none) { s.enterRetiring a .evicted none with mgmt := m } :=
      .of_eq rfl rfl rfl hconfig
    exact hframe.sessionsOk (State.enterRetiring_sessionsOk hopen (by simp) hs)
  | resetReturnsHigh => exact SessionFrame.sessionsOk (s := s) (.of_eq rfl rfl rfl rfl) hs

/-! ### The resets -/

/-- A session context without a session, with its moderator after reset. -/
theorem moderatorOk_reset {c : Session} (hclosed : c.state = .closed) : ModeratorOk c Moderator.reset := by
  refine ⟨by simp [Moderator.reset, hclosed], by simp [Moderator.reset, hclosed], by simp [Moderator.reset],
    by simp [Moderator.reset], ⟨by simp [Moderator.reset], by simp [Moderator.reset], by simp [Moderator.reset]⟩,
    by simp [DigestOk, Moderator.reset], ⟨by simp [Moderator.reset], by simp [Moderator.reset]⟩, by decide,
    by simp [Moderator.reset], by simp [Moderator.reset], by simp [Moderator.reset]⟩

theorem sessionOk_restart (c : Session) : SessionOk c.restart := by
  simp [SessionOk, Session.restart, Session.reset]

theorem resetDirectory_sessionsOk {s : State} (hs : SessionsOk s) : SessionsOk s.resetDirectory := by
  obtain ⟨-, hconfig⟩ := (sessionsOk_iff s).mp hs
  refine (sessionsOk_iff _).mpr ⟨fun a => ?_, hconfig⟩
  have hsession : (s.resetDirectory).session a = (s.session a).restart := by
    simp [State.resetDirectory, State.endDone, State.session]
  have hmoderator : (s.resetDirectory).moderator a = Moderator.reset := by
    simp [State.resetDirectory, State.endDone, State.moderator]
  unfold AgentOk
  rw [hsession, hmoderator]
  exact ⟨sessionOk_restart _, moderatorOk_reset rfl, rfl⟩

theorem configOk_reset : ConfigOk ConfigValues.reset := by
  refine ⟨rfl, rfl, rfl, rfl, rfl, rfl, fun a => ?_⟩
  simp only [ConfigValues.get, ConfigValues.reset, Per.get_replicate]
  exact ⟨rfl, rfl⟩

theorem reset_sessionsOk : SessionsOk State.reset := by
  refine (sessionsOk_iff _).mpr ⟨fun a => ?_, configOk_reset⟩
  have hsession : State.reset.session a = Session.reset.restart := by
    simp [State.reset, State.session, Session.restart, Session.reset]
  have hmoderator : State.reset.moderator a = Moderator.reset := by simp [State.reset, State.moderator]
  unfold AgentOk
  rw [hsession, hmoderator]
  exact ⟨sessionOk_restart _, moderatorOk_reset rfl, rfl⟩

theorem powerOn_sessionsOk (s : State) : SessionsOk s.powerOn :=
  SessionFrame.sessionsOk (s := State.reset) (.of_eq rfl rfl rfl rfl) reset_sessionsOk

/-- Every command keeps sessions, moderators, jobs and configuration values in agreement. -/
theorem exec_sessionsOk {c : Instr} {s t : State} (hpower : c ≠ .powerOnReset) (hexec : exec c s = .next t)
    (hs : SessionsOk s) : SessionsOk t := by
  by_cases hreset : c = .resetDirectory
  · subst hreset
    rcases exec_resetDirectory_cases hexec with rfl | ⟨-, -, rfl⟩
    · exact hs
    · exact (ended_sessionFrame _).sessionsOk (resetDirectory_sessionsOk ((s.begun_sessionFrame _).sessionsOk hs))
  · exact (exec_event hpower hreset hexec).sessionsOk hs

theorem idle_sessionsOk {s : State} (hs : SessionsOk s) : SessionsOk s.idle := by
  rcases s.idle_eq with h | ⟨-, h⟩ <;> rw [h] <;> exact hs

/-- Settles O55: an operation of the engine leaves the session contexts and tells moderators, which keeps each in agreement
with its session; a session request, a timer, a link event and the Sweep Unit move one agent, whose context, moderator and
TEARDOWN job change together. -/
theorem stepKeepsTheSessions : Obligations.StepKeepsTheSessions := by
  intro s t hs hstep
  exact step_keeps (P := SessionsOk) (fun _ _ h => h) powerOn_sessionsOk
    (fun c s t hc hexec hs => exec_sessionsOk hc hexec hs) (fun s hs => idle_sessionsOk hs) hs hstep

end Sys2Proof.Machine
end

section
/-! SUPPORT. What every step keeps of the directory state, the arcs of a session, and the statements on them (R14, R17, R76,
R77, R79, R155; Figure 5-1). -/

namespace Sys2Proof.Machine

open Sys2Proof.Expect

/-! ### The directory state (R16, R17, R153 to R155) -/

/-- A halt cause is recorded exactly while HALTED. -/
def HaltOk (s : State) : Prop := s.dir.haltCause ≠ none ↔ s.dir.state = .halted

/-- Every slot and entry is free, nothing is queued, and every session is CLOSED. -/
def Vacant (s : State) : Prop :=
  s.dir.slots = [] ∧ s.dir.pool = [] ∧ s.deadlines.list = [] ∧ s.deadlines.expiry = [] ∧ s.sweep = [] ∧
    ∀ a : AgentId, (s.session a).state = .closed

theorem directoryStateOk_iff (s : State) : DirectoryStateOk s ↔ HaltOk s ∧ (s.dir.state = .offline → Vacant s) := Iff.rfl

/-- What leads from `s` to `t` leaves the directory state and the halt cause. -/
structure DirectoryKept (s t : State) : Prop where
  state : t.dir.state = s.dir.state
  haltCause : t.dir.haltCause = s.dir.haltCause

theorem DirectoryKept.trans {s t u : State} (h : DirectoryKept s t) (h' : DirectoryKept t u) : DirectoryKept s u :=
  ⟨h'.state.trans h.state, h'.haltCause.trans h.haltCause⟩

theorem DirectoryKept.haltOk {s t : State} (h : DirectoryKept s t) (hs : HaltOk s) : HaltOk t := by
  unfold HaltOk
  rw [h.state, h.haltCause]
  exact hs

theorem EngineFrame.directoryKept {s t : State} (h : EngineFrame s t) : DirectoryKept s t := ⟨h.state, h.haltCause⟩

theorem ModeratorFrame.directoryKept {s t : State} (h : ModeratorFrame s t) : DirectoryKept s t := h.engine.directoryKept

section
variable (s : State)

@[simp] theorem State.sufferUpset_dir_haltCause : s.sufferUpset.dir.haltCause = s.dir.haltCause := by
  rw [State.sufferUpset_eq]

theorem begun_directoryKept (r : Requester) : DirectoryKept s (begun r s) :=
  ⟨s.sufferUpset_dir_state, s.sufferUpset_dir_haltCause⟩

theorem taken_directoryKept (a : AgentId) (q : Request) (rest : List Request) :
    DirectoryKept s (Expect.taken s a q rest) :=
  ⟨s.sufferUpset_dir_state, s.sufferUpset_dir_haltCause⟩

theorem State.finish_directoryKept (a : AgentId) (q : Request) (reply : Reply) : DirectoryKept s (s.finish a q reply) := by
  cases reply with
  | none => exact ⟨rfl, rfl⟩
  | executed r => rw [State.finish_executed]; exact ⟨rfl, rfl⟩
  | refused r => exact ⟨rfl, rfl⟩

theorem State.enterRetiring_directoryKept (a : AgentId) (cause : RetireCause) (tag : Option Tag) :
    DirectoryKept s (s.enterRetiring a cause tag) := by
  cases cause <;> exact ⟨rfl, rfl⟩

theorem State.enterSuspect_dir (a : AgentId) (cause : SuspectCause) : (s.enterSuspect a cause).dir = s.dir := by
  simp only [State.enterSuspect]
  split <;> rfl

theorem State.frameReport_dir (a : AgentId) (e : Epoch) : (s.frameReport a e).dir = s.dir := by
  simp only [State.frameReport]
  split <;> rfl

theorem State.answerArrival_dir (a : AgentId) (q : RawRequest) (r : Result) : (s.answerArrival a q r).1.dir = s.dir := by
  simp only [State.answerArrival]
  split <;> rfl

theorem State.arriveRequest_dir (a : AgentId) (q : RawRequest) : (s.arriveRequest a q).dir = s.dir := by
  simp only [State.arriveRequest]
  repeat' split
  · exact s.answerArrival_dir a q _
  · exact s.answerArrival_dir a q _
  · rfl
  · exact s.answerArrival_dir a q _
  · exact s.answerArrival_dir a q _
  · rfl
  · exact s.answerArrival_dir a q _

theorem State.arrive_dir (a : AgentId) (x : Arrival) : (s.arrive a x).dir = s.dir := by
  cases x with
  | keepalive e => exact s.frameReport_dir a e
  | ack n e => exact (State.judgeAck_frame _ a n e).dir.trans (s.frameReport_dir a e)
  | request q => exact (State.arriveRequest_dir _ a q).trans (s.frameReport_dir a _)

theorem State.retransmit_dir (a : AgentId) : (s.retransmit a).dir = s.dir := by
  simp only [State.retransmit]
  repeat' split
  · rfl
  · exact (s.resend_frame a _ _).dir
  · exact State.enterSuspect_dir _ a _

theorem State.linkDown_dir (a : AgentId) : (s.linkDown a).dir = s.dir := by
  simp only [State.linkDown]
  split
  · exact State.enterSuspect_dir _ a _
  · rfl

theorem State.completeTeardown_dir (a : AgentId) : (s.completeTeardown a).dir = s.dir := by
  rw [State.completeTeardown_eq_closed]
  rfl

end

theorem DirectoryKept.of_dir {s t : State} (h : t.dir = s.dir) : DirectoryKept s t := by
  constructor <;> rw [h]

theorem SessionWork.directoryKept {a : AgentId} {u t : State} (h : SessionWork a u t) : DirectoryKept u t := by
  cases h with
  | unchanged => exact ⟨rfl, rfl⟩
  | opened _ _ => exact ⟨rfl, rfl⟩
  | graced _ => exact ⟨rfl, rfl⟩
  | resumed _ => exact .of_dir (State.resumeModerator_frame _ a).dir
  | retired tag _ => exact u.enterRetiring_directoryKept a _ _
  | flushed => exact (u.flushModerator_frame a).directoryKept

theorem cleanupDone_directoryKept {u : State} {h : Nat} (hnone : u.memberNaming h = none) :
    DirectoryKept u (u.cleanupStep h) := by
  simp only [State.cleanupStep, hnone]
  split <;> exact ⟨rfl, rfl⟩

/-- A halt records its cause. -/
theorem OpOutcome.haltOk {u t : State} (h : OpOutcome u t) (hu : HaltOk u) : HaltOk t := by
  cases h with
  | work hwork => exact hwork.directoryKept.haltOk hu
  | recordFault _ =>
    rw [State.quarantine_eq_quarantined]
    simp only [quarantined]
    split
    · exact hu
    · simp [HaltOk, halted, flagged]
  | memberFault => simp [HaltOk, State.memberFault_eq_halted, halted, flagged]

/-- An operation ends with a directory that is not OFFLINE if it began with one. -/
theorem OpOutcome.state_ne_offline {u t : State} (h : OpOutcome u t) (hu : u.dir.state ≠ .offline) :
    t.dir.state ≠ .offline := by
  cases h with
  | work hwork => rwa [hwork.state]
  | recordFault _ =>
    rw [State.quarantine_eq_quarantined]
    simp only [quarantined]
    split
    · exact hu
    · simp [halted, flagged]
  | memberFault => simp [State.memberFault_eq_halted, halted, flagged]

/-! ### The turns of the other requesters (R20) -/

theorem expiryTurn_online {s : State} {e : Deadline} {rest : List Deadline} (h : ExpiryTurn s e rest) :
    s.dir.state = .online := by
  obtain ⟨-, hturn, -⟩ := h
  have := (State.nextTurn_eligible hturn).2
  simp only [State.eligible, Bool.and_eq_true, decide_eq_true_iff] at this
  exact this.2

theorem sweepTurn_online {s : State} {j : SweepJob} {rest : List SweepJob} (h : SweepTurn s j rest) :
    s.dir.state = .online := by
  obtain ⟨-, hturn, -⟩ := h
  have := (State.nextTurn_eligible hturn).2
  simp only [State.eligible, Bool.and_eq_true, decide_eq_true_iff] at this
  exact this.2

/-- A command leaves the directory state and the halt cause, or finds a directory that is not HALTED and records a cause with
the halt. -/
theorem Event.directory {s t : State} (h : Event s t) :
    DirectoryKept s t ∨
      s.dir.state ≠ .halted ∧ (HaltOk s → HaltOk t) ∧ (s.dir.state ≠ .offline → t.dir.state ≠ .offline) := by
  have hoperation {u v : State} (hkept : DirectoryKept s u) (hop : OpOutcome u v) :
      (HaltOk s → HaltOk v) ∧ (s.dir.state ≠ .offline → v.dir.state ≠ .offline) :=
    ⟨fun hs => hop.haltOk (hkept.haltOk hs), fun hs => hop.state_ne_offline (by rwa [hkept.state])⟩
  cases h with
  | nothing => exact .inl ⟨rfl, rfl⟩
  | @directoryTurn a q rest t r hserved hop =>
    obtain ⟨-, -, honline⟩ := hserved
    obtain ⟨hhalt, hoffline⟩ := hoperation (taken_directoryKept s _ _ _) hop
    have hend := t.finish_directoryKept a q (.executed r)
    exact .inr ⟨by simp [honline], fun hs => hend.haltOk (hhalt hs), fun hs => by rw [hend.state]; exact hoffline hs⟩
  | sessionTurn _ hop =>
    exact .inl (((taken_directoryKept s _ _ _).trans hop.directoryKept).trans (State.finish_directoryKept _ _ _ _))
  | @expiryTurn e rest t hturn hop =>
    have hkept : DirectoryKept s { begun .expiry s with deadlines := { s.deadlines with expiry := rest } } :=
      (begun_directoryKept s .expiry).trans ⟨rfl, rfl⟩
    obtain ⟨hhalt, hoffline⟩ := hoperation hkept hop
    exact .inr ⟨by simp [expiryTurn_online hturn], hhalt, hoffline⟩
  | sweepTurn hturn hop =>
    obtain ⟨hhalt, hoffline⟩ := hoperation (begun_directoryKept s .sweep) hop
    exact .inr ⟨by simp [sweepTurn_online hturn], hhalt, hoffline⟩
  | teardownDone _ _ =>
    exact .inl ((begun_directoryKept s .sweep).trans (.of_dir (State.completeTeardown_dir _ _)))
  | cleanupDone _ hnone =>
    have hkept := cleanupDone_directoryKept hnone
    exact .inl ((begun_directoryKept s .sweep).trans ⟨hkept.state, hkept.haltCause⟩)
  | managementTurn _ hhalt _ hop _ =>
    obtain ⟨hhalts, hoffline⟩ := hoperation (begun_directoryKept s .management) hop
    exact .inr ⟨hhalt, hhalts, hoffline⟩
  | managementIdle _ _ =>
    have hkept := begun_directoryKept s .management
    exact .inl ⟨hkept.state, hkept.haltCause⟩
  | frame x _ => exact .inl (.of_dir (s.arrive_dir _ x))
  | port _ => exact .inl ⟨rfl, rfl⟩
  | linkDown _ => exact .inl (.of_dir (s.linkDown_dir _))
  | graceExpiry _ => exact .inl (.of_dir (s.enterSuspect_dir _ _))
  | lapseExpiry _ => exact .inl (s.enterRetiring_directoryKept _ _ _)
  | holdExpiry _ => exact .inl (s.emit_frame _).directoryKept
  | retransmitExpiry _ => exact .inl (.of_dir (s.retransmit_dir _))
  | fallDue => exact .inl ⟨rfl, rfl⟩
  | management _ => exact .inl ⟨rfl, rfl⟩
  | enabled hoff _ =>
    refine .inr ⟨by simp [hoff], fun hs => ?_, fun _ => by simp⟩
    simp only [HaltOk, hoff] at hs ⊢
    simpa using hs
  | floorLoaded _ _ _ _ => exact .inl ⟨rfl, rfl⟩
  | @evicted a m _ _ =>
    have hkept := s.enterRetiring_directoryKept a .evicted none
    exact .inl ⟨hkept.state, hkept.haltCause⟩
  | resetReturnsHigh => exact .inl ⟨rfl, rfl⟩

theorem Event.haltOk {s t : State} (h : Event s t) (hs : HaltOk s) : HaltOk t := by
  rcases h.directory with hkept | ⟨-, hkeeps, -⟩
  · exact hkept.haltOk hs
  · exact hkeeps hs

/-! ### An OFFLINE directory -/

section
variable {s : State}

theorem State.record_of_slots_nil (hslots : s.dir.slots = []) (h : Nat) : s.record h = none := by
  simp only [State.record, State.slot, hslots, Table.get_nil]

theorem State.member_of_pool_nil (hpool : s.dir.pool = []) (i : Nat) : s.member i = none := by
  simp only [State.member, hpool, Table.get_nil]

/-- There is nothing to damage. -/
theorem State.sufferUpset_dir_of_vacant (hs : Vacant s) : s.sufferUpset.dir = s.dir := by
  obtain ⟨hslots, hpool, -⟩ := hs
  have hrecord (l : List Upset) (h : Nat) : State.record { s with upsets := l } h = none :=
    State.record_of_slots_nil hslots h
  have hmember (l : List Upset) (i : Nat) : State.member { s with upsets := l } i = none :=
    State.member_of_pool_nil hpool i
  simp only [State.sufferUpset, hrecord, hmember]
  repeat' split
  all_goals rfl

theorem Vacant.of_eq {t : State} (hs : Vacant s) (hslots : t.dir.slots = s.dir.slots) (hpool : t.dir.pool = s.dir.pool)
    (hdeadlines : t.deadlines = s.deadlines) (hsweep : t.sweep = s.sweep)
    (hsessions : ∀ a, (s.session a).state = .closed → (t.session a).state = .closed) : Vacant t := by
  obtain ⟨hs1, hs2, hs3, hs4, hs5, hs6⟩ := hs
  exact ⟨hslots.trans hs1, hpool.trans hs2, by rw [hdeadlines, hs3], by rw [hdeadlines, hs4], hsweep.trans hs5,
    fun a => hsessions a (hs6 a)⟩

theorem Vacant.begun (hs : Vacant s) (r : Requester) : Vacant (begun r s) := by
  have hdir : (Expect.begun r s).dir = s.dir := State.sufferUpset_dir_of_vacant hs
  refine hs.of_eq (by rw [hdir]) (by rw [hdir]) (State.begun_deadlines r s) (State.begun_sweep r s) fun a ha => ?_
  rwa [(s.begun_sessionFrame r).session a]

theorem Vacant.taken (hs : Vacant s) (a : AgentId) (q : Request) (rest : List Request) :
    Vacant (Expect.taken s a q rest) :=
  (hs.begun (.agent a)).of_eq rfl rfl rfl rfl fun _ h => h

theorem Vacant.closed (hs : Vacant s) (a : AgentId) : (s.session a).state = .closed := by
  obtain ⟨-, -, -, -, -, hclosed⟩ := hs
  exact hclosed a

theorem Vacant.finish (hs : Vacant s) (a : AgentId) (q : Request) (reply : Reply) : Vacant (s.finish a q reply) := by
  refine hs.of_eq ?_ ?_ ?_ ?_ fun b hb => by rwa [(s.finish_sessionFrame a q reply).session b]
  all_goals
    cases reply with
    | none => rfl
    | executed r => rw [State.finish_executed]; rfl
    | refused r => rfl

theorem ModeratorFrame.vacant {t : State} (h : ModeratorFrame s t) (hs : Vacant s) : Vacant t :=
  hs.of_eq (by rw [h.dir]) (by rw [h.dir]) h.deadlines h.sweep fun a ha => by rwa [h.session a]

/-- A session request leaves an OFFLINE directory vacant: none opens, and none is open to be moved (R79). -/
theorem SessionWork.vacant {a : AgentId} {t : State} (h : SessionWork a s t) (hoff : s.dir.state = .offline)
    (hs : Vacant s) : Vacant t := by
  have hclosed := hs.closed a
  cases h with
  | unchanged => exact hs
  | opened _ honline => simp [hoff] at honline
  | graced hactive => simp [hclosed] at hactive
  | resumed hsuspect => simp [hclosed] at hsuspect
  | retired tag hopen => simp [hclosed] at hopen
  | flushed => exact (s.flushModerator_frame a).vacant hs

theorem State.enterSuspect_of_closed {a : AgentId} (hclosed : (s.session a).state = .closed) (cause : SuspectCause) :
    s.enterSuspect a cause = s := by
  simp [State.enterSuspect, hclosed]

theorem State.frameReport_of_closed {a : AgentId} (hclosed : (s.session a).state = .closed) (e : Epoch) :
    s.frameReport a e = s := by
  simp [State.frameReport, hclosed]

theorem Vacant.answerArrival (hs : Vacant s) (a : AgentId) (q : RawRequest) (r : Result) :
    Vacant (s.answerArrival a q r).1 := by
  simp only [State.answerArrival]
  split <;> exact hs.of_eq rfl rfl rfl rfl fun _ h => h

theorem Vacant.arriveRequest (hs : Vacant s) (a : AgentId) (q : RawRequest) : Vacant (s.arriveRequest a q) := by
  have hputs (m : Management) (ports : Per Port) : Vacant { s with mgmt := m, ports := ports } :=
    hs.of_eq rfl rfl rfl rfl fun _ h => h
  simp only [State.arriveRequest]
  repeat' split
  · exact (hs.answerArrival a q _).of_eq rfl rfl rfl rfl fun _ h => h
  · exact hs.answerArrival a q _
  · exact hputs _ _
  · exact hs.answerArrival a q _
  · exact hs.answerArrival a q _
  · exact hputs _ _
  · exact hs.answerArrival a q _

theorem Vacant.arrive (hs : Vacant s) (a : AgentId) (x : Arrival) : Vacant (s.arrive a x) := by
  have hsame := State.frameReport_of_closed (hs.closed a)
  cases x with
  | keepalive e => simpa only [State.arrive, hsame] using hs
  | ack n e =>
    simp only [State.arrive, hsame]
    exact (s.judgeAck_frame a n e).vacant hs
  | request q =>
    simp only [State.arrive, hsame]
    exact hs.arriveRequest a q

theorem Vacant.linkDown (hs : Vacant s) (a : AgentId) : Vacant (s.linkDown a) := by
  simp only [State.linkDown]
  split
  · have hclosed := hs.closed a
    rw [State.enterSuspect_of_closed (by rwa [State.count_session, State.putPort_session])]
    exact hs.of_eq rfl rfl rfl rfl fun _ h => h
  · exact hs

/-- While OFFLINE, a command that leaves the directory OFFLINE leaves it vacant. -/
theorem Event.vacant {t : State} (h : Event s t) (hsessions : SessionsOk s) (hoff : s.dir.state = .offline)
    (hs : Vacant s) (hoff' : t.dir.state = .offline) : Vacant t := by
  have hopen (a : AgentId) (st : SessionState) (hst : st ≠ .closed) (hne : (s.session a).state = st) : False :=
    hst (hne.symm.trans (hs.closed a))
  cases h with
  | nothing => exact hs
  | directoryTurn hserved _ =>
    obtain ⟨-, -, honline⟩ := hserved
    simp [hoff] at honline
  | sessionTurn _ hop =>
    exact (hop.vacant ((taken_directoryKept s _ _ _).state.trans hoff) (hs.taken _ _ _)).finish _ _ _
  | expiryTurn hturn _ => exact absurd (expiryTurn_online hturn) (by simp [hoff])
  | sweepTurn hturn _ => exact absurd (sweepTurn_online hturn) (by simp [hoff])
  | teardownDone hturn _ => exact absurd (sweepTurn_online hturn) (by simp [hoff])
  | cleanupDone hturn _ => exact absurd (sweepTurn_online hturn) (by simp [hoff])
  | managementTurn _ _ hslots _ _ => exact absurd (hs.begun .management).1 hslots
  | managementIdle _ _ => exact (hs.begun .management).of_eq rfl rfl rfl rfl fun _ h => h
  | frame x _ => exact hs.arrive _ x
  | port _ => exact hs.of_eq rfl rfl rfl rfl fun _ h => h
  | linkDown _ => exact hs.linkDown _
  | graceExpiry hactive => exact (hopen _ _ (by simp) hactive).elim
  | lapseExpiry hsuspect => exact (hopen _ _ (by simp) hsuspect).elim
  | holdExpiry _ => exact (s.emit_frame _).vacant hs
  | retransmitExpiry hstate => exact (hopen _ _ (by simp) (hsessions.active_of_outstanding hstate)).elim
  | fallDue =>
    obtain ⟨hslots, hpool, hlist, hexpiry, hsweep, hclosed⟩ := hs
    exact ⟨hslots, hpool, by simp [State.fallDue, hlist], by simp [State.fallDue, State.dueDeadlines, hlist, hexpiry],
      hsweep, hclosed⟩
  | management _ => exact hs.of_eq rfl rfl rfl rfl fun _ h => h
  | enabled _ _ => simp at hoff'
  | floorLoaded _ _ _ _ => exact hs.of_eq rfl rfl rfl rfl fun _ h => h
  | evicted hstate _ =>
    rcases hstate with hactive | hsuspect
    · exact (hopen _ _ (by simp) hactive).elim
    · exact (hopen _ _ (by simp) hsuspect).elim
  | resetReturnsHigh => exact hs.of_eq rfl rfl rfl rfl fun _ h => h

/-- A command does not lead back to OFFLINE. -/
theorem Event.state_ne_offline {t : State} (h : Event s t) (hs : s.dir.state ≠ .offline) : t.dir.state ≠ .offline := by
  rcases h.directory with hkept | ⟨-, -, hkeeps⟩
  · rwa [hkept.state]
  · exact hkeeps hs

theorem Event.directoryStateOk {t : State} (h : Event s t) (hsessions : SessionsOk s) (hs : DirectoryStateOk s) :
    DirectoryStateOk t := by
  obtain ⟨hhalt, hvacant⟩ := hs
  refine ⟨h.haltOk hhalt, fun hoff' => ?_⟩
  by_cases hoff : s.dir.state = .offline
  · exact h.vacant hsessions hoff (hvacant hoff) hoff'
  · exact absurd hoff' (h.state_ne_offline hoff)

end

theorem resetDirectory_directoryStateOk (s : State) : DirectoryStateOk s.resetDirectory := by
  refine ⟨by simp [State.resetDirectory, State.endDone, Directory.restart, Directory.reset], fun _ => ?_⟩
  refine ⟨rfl, rfl, rfl, rfl, rfl, fun a => ?_⟩
  simp [State.resetDirectory, State.endDone, State.session, Session.restart, Session.reset]

theorem powerOn_directoryStateOk (s : State) : DirectoryStateOk s.powerOn := by
  refine ⟨by simp [State.powerOn, State.reset, Directory.reset], fun _ => ⟨rfl, rfl, rfl, rfl, rfl, fun a => ?_⟩⟩
  simp [State.powerOn, State.reset, State.session, Session.reset]

theorem exec_directoryStateOk {c : Instr} {s t : State} (hpower : c ≠ .powerOnReset) (hexec : exec c s = .next t)
    (hsessions : SessionsOk s) (hs : DirectoryStateOk s) : DirectoryStateOk t := by
  by_cases hreset : c = .resetDirectory
  · subst hreset
    rcases exec_resetDirectory_cases hexec with rfl | ⟨-, -, rfl⟩
    · exact hs
    · exact resetDirectory_directoryStateOk (begun .management s)
  · exact (exec_event hpower hreset hexec).directoryStateOk hsessions hs

theorem idle_directoryStateOk {s : State} (hs : DirectoryStateOk s) : DirectoryStateOk s.idle := by
  rcases s.idle_eq with h | ⟨-, h⟩ <;> rw [h] <;> exact hs

/-- Settles O56: the directory leaves OFFLINE by ENABLE_DIRECTORY alone, a halt records its cause, and while OFFLINE nobody
has a session, a turn of the expiry queue or of the Sweep Unit, or a slot to work on. -/
theorem stepKeepsTheDirectoryState : Obligations.StepKeepsTheDirectoryState := by
  intro s t hsessions hs hstep
  refine (step_keeps (P := fun s => SessionsOk s ∧ DirectoryStateOk s) (fun _ _ h => h)
    (fun s => ⟨powerOn_sessionsOk s, powerOn_directoryStateOk s⟩) ?_ ?_ ⟨hsessions, hs⟩ hstep).2
  · rintro c s t hc hexec ⟨hsessions, hs⟩
    exact ⟨exec_sessionsOk hc hexec hsessions, exec_directoryStateOk hc hexec hsessions hs⟩
  · rintro s ⟨hsessions, hs⟩
    exact ⟨idle_sessionsOk hsessions, idle_directoryStateOk hs⟩

/-! ### The arcs of a session (Figure 5-1; R76, R77) -/

/-- A session context moves along an arc of Figure 5-1; it closes from RETIRING only, and its epoch changes only when it
opens. -/
structure SessionStep (c c' : Session) : Prop where
  arc : sessionArc c.state c'.state = true
  closes : c'.state = .closed → c.state = .closed ∨ c.state = .retiring
  opens : c'.epoch ≠ c.epoch → c.state = .closed ∧ c'.state = .active

theorem SessionStep.of_same {c c' : Session} (hstate : c'.state = c.state) (hepoch : c'.epoch = c.epoch) :
    SessionStep c c' where
  arc := by rw [hstate]; cases c.state <;> rfl
  closes h := .inl (hstate.symm.trans h)
  opens h := absurd hepoch h

theorem SessionStep.of_eq {c c' : Session} (h : c' = c) : SessionStep c c' := .of_same (h ▸ rfl) (h ▸ rfl)

section
variable {s : State} {a : AgentId}

theorem SessionFrame.step {t : State} (h : SessionFrame s t) (b : AgentId) : SessionStep (s.session b) (t.session b) :=
  .of_eq (h.session b)

/-- A session context is written, along an arc. -/
theorem State.putSession_step {c : Session} (h : SessionStep (s.session a) c) (b : AgentId) :
    SessionStep (s.session b) ((s.putSession a c).session b) := by
  by_cases hb : b = a
  · subst hb; rwa [State.putSession_session_self]
  · exact .of_eq (s.putSession_session_of_ne c hb)

theorem State.enterSuspect_step (cause : SuspectCause) (b : AgentId) :
    SessionStep (s.session b) ((s.enterSuspect a cause).session b) := by
  simp only [State.enterSuspect]
  split
  · next hactive =>
    have hstep : SessionStep (s.session a)
        { s.session a with
          state := .suspect, suspectCause := some cause, graceDue := none, lapseDue := s.lapseStart } :=
      ⟨by simp [hactive, sessionArc], fun h => by simp at h, fun h => absurd rfl h⟩
    exact State.putSession_step hstep b
  · exact .of_eq rfl

theorem State.enterRetiring_step (cause : RetireCause) (tag : Option Tag)
    (hopen : (s.session a).state = .active ∨ (s.session a).state = .suspect) (b : AgentId) :
    SessionStep (s.session b) ((s.enterRetiring a cause tag).session b) := by
  by_cases hb : b = a
  · subst hb
    rw [State.enterRetiring_session_self]
    refine ⟨?_, fun h => by simp at h, fun h => absurd rfl h⟩
    rcases hopen with h | h <;> simp [h, sessionArc]
  · exact .of_eq (State.enterRetiring_session_of_ne cause tag hb)

theorem State.frameReport_step (e : Epoch) (b : AgentId) : SessionStep (s.session b) ((s.frameReport a e).session b) := by
  simp only [State.frameReport]
  split
  · have hstep : SessionStep (s.session a) { s.session a with graceDue := s.graceStart } := .of_same rfl rfl
    exact State.putSession_step hstep b
  · exact .of_eq rfl

theorem State.arrive_step (x : Arrival) (b : AgentId) : SessionStep (s.session b) ((s.arrive a x).session b) := by
  cases x with
  | keepalive e => exact State.frameReport_step e b
  | ack n e =>
    simp only [State.arrive, (State.judgeAck_sessionFrame _ a n e).session b]
    exact State.frameReport_step e b
  | request q =>
    simp only [State.arrive, (State.arriveRequest_sessionFrame _ a q).session b]
    exact State.frameReport_step _ b

theorem SessionWork.step {t : State} (h : SessionWork a s t) (b : AgentId) :
    SessionStep (s.session b) (t.session b) := by
  cases h with
  | unchanged => exact .of_eq rfl
  | opened hclosed _ =>
    have hstep : SessionStep (s.session a)
        { s.session a with
          state := .active, epoch := nextEpoch (s.session a).epoch, suspectCause := none, retireCause := none
          lapseDue := none, graceDue := s.graceStart } :=
      ⟨by simp [hclosed, sessionArc], fun h => by simp at h, fun _ => ⟨hclosed, rfl⟩⟩
    exact State.putSession_step hstep b
  | graced _ =>
    have hstep : SessionStep (s.session a) { s.session a with graceDue := s.graceStart } := .of_same rfl rfl
    exact State.putSession_step hstep b
  | resumed hsuspect =>
    rw [(State.resumeModerator_frame _ a).session b]
    have hstep : SessionStep (s.session a)
        { s.session a with
          state := .active, lapseDue := none, suspectCause := none, graceDue := s.graceStart } :=
      ⟨by simp [hsuspect, sessionArc], fun h => by simp at h, fun h => absurd rfl h⟩
    exact State.putSession_step hstep b
  | retired tag hopen => exact State.enterRetiring_step _ _ hopen b
  | flushed => exact (s.flushModerator_sessionFrame a).step b

theorem State.retransmit_step (b : AgentId) : SessionStep (s.session b) ((s.retransmit a).session b) := by
  simp only [State.retransmit]
  repeat' split
  · exact .of_eq rfl
  · exact .of_eq ((s.resend_frame a _ _).session b)
  · exact State.enterSuspect_step (s := s.putModerator a _) _ b

theorem State.linkDown_step (b : AgentId) : SessionStep (s.session b) ((s.linkDown a).session b) := by
  simp only [State.linkDown]
  split
  · exact State.enterSuspect_step (s := State.count _ (s.putPort a _)) _ b
  · exact .of_eq rfl

/-- The agent of a TEARDOWN job is RETIRING (R96). -/
theorem SessionsOk.retiring_of_job {rest : List SweepJob} (hs : SessionsOk s) (hjob : s.sweep = .teardown a :: rest) :
    (s.session a).state = .retiring := by
  obtain ⟨-, -, hjobs⟩ := hs.agent a
  by_contra h
  rw [if_neg h, hjob, List.count_cons_self] at hjobs
  omega

theorem State.completeTeardown_step (hretiring : (s.session a).state = .retiring) (b : AgentId) :
    SessionStep (s.session b) ((s.completeTeardown a).session b) := by
  rw [State.completeTeardown_eq_closed]
  have hstep : SessionStep (s.session a) { s.session a with state := .closed, closeTag := none } :=
    ⟨by simp [hretiring, sessionArc], fun _ => .inr hretiring, fun h => absurd rfl h⟩
  exact State.putSession_step hstep b

/-- Every command but the resets moves each session along an arc. -/
theorem Event.sessionStep {t : State} (h : Event s t) (hs : SessionsOk s) (b : AgentId) :
    SessionStep (s.session b) (t.session b) := by
  cases h with
  | nothing => exact .of_eq rfl
  | directoryTurn _ hop =>
    exact (((taken_sessionFrame s _ _ _).trans hop.sessionFrame).trans (State.finish_sessionFrame _ _ _ _)).step b
  | @sessionTurn a q rest t reply _ hop =>
    rw [(t.finish_sessionFrame a q reply).session b, ← (taken_sessionFrame s a q rest).session b]
    exact hop.step b
  | @expiryTurn e rest t _ hop =>
    have hpop : SessionFrame s { begun .expiry s with deadlines := { s.deadlines with expiry := rest } } :=
      (s.begun_sessionFrame .expiry).trans (.of_eq rfl rfl rfl rfl)
    exact (hpop.trans hop.sessionFrame).step b
  | sweepTurn _ hop => exact ((s.begun_sessionFrame _).trans hop.sessionFrame).step b
  | @teardownDone a rest hturn _ =>
    have hretiring := hs.retiring_of_job hturn.2.2
    have hstep := State.completeTeardown_step (s := (begun .sweep s).dropJob) (a := a)
      (by rw [State.dropJob_session, (s.begun_sessionFrame .sweep).session]; exact hretiring) b
    rwa [State.dropJob_session, (s.begun_sessionFrame .sweep).session] at hstep
  | @cleanupDone h rest hturn hnone =>
    have hjob : (begun .sweep s).sweep = .cleanup h :: rest := (State.begun_sweep _ s).trans hturn.2.2
    exact ((s.begun_sessionFrame _).trans (cleanupDone_sessionFrame hjob hnone)).step b
  | managementTurn _ _ _ hop _ => exact ((s.begun_sessionFrame _).trans hop.sessionFrame).step b
  | managementIdle _ _ => exact (s.begun_sessionFrame .management).step b
  | frame x _ => exact State.arrive_step x b
  | port _ => exact .of_eq rfl
  | linkDown _ => exact State.linkDown_step b
  | graceExpiry _ => exact State.enterSuspect_step _ b
  | lapseExpiry hsuspect => exact State.enterRetiring_step _ _ (.inr hsuspect) b
  | holdExpiry _ => exact .of_eq ((s.emit_frame _).session b)
  | retransmitExpiry _ => exact State.retransmit_step b
  | fallDue => exact .of_eq rfl
  | management _ => exact .of_eq rfl
  | enabled _ _ => exact .of_eq rfl
  | floorLoaded _ _ _ _ => exact .of_eq rfl
  | evicted hopen _ => exact State.enterRetiring_step _ _ hopen b
  | resetReturnsHigh => exact .of_eq rfl

end

/-- Settles O60: the entries into ACTIVE, SUSPECT, RETIRING and CLOSED are the only writes of a session's state, each from the
states of its arc, and no turn that could change the directory state is given while it is HALTED. -/
theorem sessionsMoveAlongTheirArcs : Obligations.SessionsMoveAlongTheirArcs := by
  intro s t c a hs hexec hpower hreset
  have hevent := exec_event hpower hreset hexec
  obtain ⟨harc, hcloses, hopens⟩ := hevent.sessionStep hs a
  refine ⟨harc, hcloses, hopens, fun hhalted => ?_⟩
  rcases hevent.directory with hkept | ⟨hnot, -⟩
  · exact ⟨hkept.state.trans hhalted, hkept.haltCause⟩
  · exact absurd hhalted hnot

end Sys2Proof.Machine
end

section
/-! SUPPORT. The shared operations on records, memberships and deadlines as explicit updates, and the statements that say so
(R29 to R31, R37, R41, R47, R48, R65 to R69). -/

namespace Sys2Proof.Machine

open Sys2Proof.Expect

/-! ### Deadlines (R65 to R69) -/

section
variable {s : State} {h i : Nat} {r : Record} {m : Membership}

theorem State.removeDeadline_eq (s : State) (i : Nat) :
    s.removeDeadline i =
      { s with
        deadlines :=
          { list := s.deadlines.list.filter (fun e => decide (e.index ≠ i))
            expiry := s.deadlines.expiry.filter (fun e => decide (e.index ≠ i)) } } := rfl

theorem State.withdrawDeadline_of_set (hm : s.member i = some m) (hset : m.deadline.isSome = true) :
    s.withdrawDeadline i = wroteMember i { m with deadline := none } (delisted i s) := by
  simp only [State.withdrawDeadline, hm, hset, if_true]
  rfl

theorem State.withdrawDeadline_of_unset (hunset : m.deadline.isSome = false) (hm : s.member i = some m) :
    s.withdrawDeadline i = s := by
  simp only [State.withdrawDeadline, hm, hunset, Bool.false_eq_true, if_false]

/-- Where an insertion places its entry: behind those that are due no later. -/
theorem insertDeadline_split (now : Time) (e : Deadline) (l : List Deadline) :
    ∃ before after, l = before ++ after ∧ insertDeadline now e l = before ++ e :: after ∧
      (∀ x ∈ before, remaining now x.due ≤ remaining now e.due) ∧
      ∀ x ∈ after.head?, remaining now e.due < remaining now x.due := by
  induction l with
  | nil => exact ⟨[], [], rfl, rfl, by simp, by simp⟩
  | cons y l ih =>
    simp only [insertDeadline]
    split
    · next hle =>
      obtain ⟨before, after, hl, hinsert, hbefore, hafter⟩ := ih
      refine ⟨y :: before, after, by rw [hl, List.cons_append], by rw [hinsert, List.cons_append], ?_, hafter⟩
      intro x hx
      rcases List.mem_cons.mp hx with rfl | hx
      · exact hle
      · exact hbefore x hx
    · next hlt => exact ⟨[], y :: l, rfl, rfl, by simp, by simpa using hlt⟩

theorem State.registerDeadline_zero (s : State) (i : Nat) (kind : DeadlineKind) : s.registerDeadline i kind 0 = s :=
  if_pos rfl

theorem State.registerDeadline_of_member {kind : DeadlineKind} {d : BitVec 16} (hm : s.member i = some m) (hd : d ≠ 0) :
    s.registerDeadline i kind d =
      wroteMember i { m with deadline := some (s.clock.ms + d.setWidth 32 + 1) }
        { s with
          deadlines :=
            { list :=
                insertDeadline s.clock.ms
                  { index := i, agent := m.agent, stamp := m.stamp, kind := kind
                    due := s.clock.ms + d.setWidth 32 + 1 }
                  (s.deadlines.list.filter (fun e => decide (e.index ≠ i)))
              expiry := s.deadlines.expiry.filter (fun e => decide (e.index ≠ i)) } } := by
  simp only [State.registerDeadline, hd, if_false, hm]
  rfl

end

/-- Settles O24: each operation on a deadline is an explicit update; the insertion splits the list at its place. -/
theorem deadlinesAreRegisteredAndWithdrawn : Obligations.DeadlinesAreRegisteredAndWithdrawn := by
  intro s i kind d m hm
  refine ⟨?_, fun hd => ?_, fun hset => ?_, fun hunset => ?_, s.removeDeadline_eq i⟩
  · rintro rfl
    exact s.registerDeadline_zero i kind
  · obtain ⟨before, after, hlist, hinsert, hbefore, hafter⟩ := insertDeadline_split s.clock.ms
      { index := i, agent := m.agent, stamp := m.stamp, kind := kind, due := s.clock.ms + d.setWidth 32 + 1 }
      (s.deadlines.list.filter (fun e => decide (e.index ≠ i)))
    refine ⟨before, after, _, hlist, hbefore, hafter, rfl, ?_⟩
    rw [State.registerDeadline_of_member hm hd, hinsert]
  · exact State.withdrawDeadline_of_set hm (Option.isSome_iff_ne_none.mpr hset)
  · exact State.withdrawDeadline_of_unset (by simp [hunset]) hm

theorem reached_iff (now d : Time) : reached now d = true ↔ Reached now d := decide_eq_true_iff

/-- Settles O25: the due entries are the longest head of the list that has been reached. -/
theorem dueDeadlinesJoinTheExpiryQueue : Obligations.DueDeadlinesJoinTheExpiryQueue := by
  intro s out stay hreset hlist hout hstay
  have hdue : s.dueDeadlines = out ∧ s.deadlines.list.dropWhile (fun e => reached s.clock.ms e.due) = stay := by
    have hall : ∀ e ∈ out, reached s.clock.ms e.due = true := fun e he => (reached_iff _ _).mpr (hout e he)
    have hnone : ∀ e ∈ stay.head?, reached s.clock.ms e.due = false :=
      fun e he => Bool.eq_false_iff.mpr (mt (reached_iff _ _).mp (hstay e he))
    cases stay with
    | nil =>
      rw [List.append_nil] at hlist
      rw [State.dueDeadlines, hlist]
      exact ⟨List.takeWhile_eq_self_iff.mpr hall, List.dropWhile_eq_nil_iff.mpr hall⟩
    | cons x stay =>
      have hx : reached s.clock.ms x.due = false := hnone x rfl
      rw [State.dueDeadlines, hlist]
      constructor
      · rw [List.takeWhile_append_of_pos hall, List.takeWhile_cons_of_neg (by simp [hx]), List.append_nil]
      · rw [List.dropWhile_append_of_pos hall, List.dropWhile_cons_of_neg (by simp [hx])]
  change Host.Outcome.next (if s.resetN then s.fallDue else s) = _
  rw [if_pos hreset, State.fallDue, hdue.1, hdue.2]

/-! ### Removals and grants in one update (R29 to R31, R48) -/

section
variable {s : State} {h i : Nat} {r : Record} {m : Membership}

/-- The state without the deadline entry of a membership whose deadline field is set (R68). -/
def undue (i : Nat) (m : Membership) (s : State) : State := if m.deadline.isSome then delisted i s else s

theorem State.editRecord_eq_wrote (hr : s.record h = some r) (f : Record → Record) :
    s.editRecord h f = wrote h (f r) s := State.editRecord_of_record f hr

@[simp] theorem undue_dir (i : Nat) (m : Membership) (s : State) : (undue i m s).dir = s.dir := by
  unfold undue
  split <;> rfl

@[simp] theorem undue_record (i : Nat) (m : Membership) (s : State) (h : Nat) : (undue i m s).record h = s.record h := by
  simp only [State.record, State.slot, undue_dir]

@[simp] theorem undue_member (i : Nat) (m : Membership) (s : State) (j : Nat) : (undue i m s).member j = s.member j := by
  simp only [State.member, undue_dir]

@[simp] theorem undue_counts (i : Nat) (m : Membership) (s : State) (a : AgentId) :
    (undue i m s).counts a = s.counts a := by
  simp only [State.counts, undue_dir]

@[simp] theorem wroteMember_record (i : Nat) (m : Membership) (s : State) (h : Nat) :
    (wroteMember i m s).record h = s.record h := rfl

@[simp] theorem wroteMember_counts (i : Nat) (m : Membership) (s : State) (a : AgentId) :
    (wroteMember i m s).counts a = s.counts a := rfl

@[simp] theorem wrote_member (h : Nat) (r : Record) (s : State) (j : Nat) : (wrote h r s).member j = s.member j := rfl

@[simp] theorem wrote_counts (h : Nat) (r : Record) (s : State) (a : AgentId) :
    (wrote h r s).counts a = s.counts a := rfl

@[simp] theorem wroteMember_member_self (i : Nat) (m : Membership) (s : State) :
    (wroteMember i m s).member i = some { m with checkOk := true } := Table.get_put_self _ _ _

@[simp] theorem wrote_record_self (h : Nat) (r : Record) (s : State) :
    (wrote h r s).record h = some { r with checkOk := true } := by
  simp [wrote, sealed, State.record, State.slot]

/-- What a write of a membership does not read: its check code, which the write computes anew (R12). -/
def Rechecks (f : Membership → Membership) : Prop :=
  ∀ x : Membership, { f { x with checkOk := true } with checkOk := true } = { f x with checkOk := true }

/-- A withdrawal and a write of the membership are one write, with the deadline field cleared. -/
theorem State.editMember_withdrawDeadline (hm : s.member i = some m) {f : Membership → Membership} (hf : Rechecks f) :
    (s.withdrawDeadline i).editMember i f = wroteMember i (f { m with deadline := none }) (undue i m s) := by
  cases hset : m.deadline.isSome with
  | true =>
    rw [State.withdrawDeadline_of_set hm hset, undue, hset, if_pos rfl,
      State.editMember_of_member f (wroteMember_member_self i _ _)]
    simp only [State.putMember, wroteMember, Table.put_put, hf { m with deadline := none }]
  | false =>
    have hnone : m.deadline = none := Option.isNone_iff_eq_none.mp (by simpa using hset)
    have hsame : { m with deadline := none } = m := by rw [← hnone]
    rw [State.withdrawDeadline_of_unset hset hm, undue, hset, State.editMember_of_member f hm, hsame]
    rfl

/-- Clearing a pending upgrade (R31). -/
theorem State.clearUpgrade_eq (hr : s.record h = some r) (hm : s.member i = some m) :
    s.clearUpgrade h i =
      wroteCounts m.agent { s.counts m.agent with upgrades := (s.counts m.agent).upgrades - 1 }
        (wrote h { r with upgrade := none }
          (wroteMember i { m with upgradePending := false, deadline := none } (undue i m s))) := by
  simp only [State.clearUpgrade, hm]
  rw [State.editMember_withdrawDeadline hm (fun _ => rfl),
    State.editRecord_eq_wrote (r := r) (by rw [wroteMember_record, undue_record, hr]), State.editCounts_eq, wrote_counts,
    wroteMember_counts, undue_counts]
  rfl

/-- Freeing a pool entry (R11, R13). -/
theorem State.freeEntry_eq (s : State) (i : Nat) (m : Membership) :
    s.freeEntry i m =
      wroteCounts m.agent
        (match m.role with
          | .hold => { s.counts m.agent with holds := (s.counts m.agent).holds - 1 }
          | .wait => { s.counts m.agent with waits := (s.counts m.agent).waits - 1 })
        (freed i s) := by
  rw [State.freeEntry, State.editCounts_eq]
  cases m.role <;> rfl

theorem State.removeHold_of_plain (hr : s.record h = some r) (hm : s.member i = some m) (hrole : m.role = .hold)
    (hplain : m.upgradePending = false) :
    s.removeHold h i =
      wroteCounts m.agent { s.counts m.agent with holds := (s.counts m.agent).holds - 1 }
        (freed i (wrote h { r with holders := r.holders.filter (fun j => decide (j ≠ i)) } s)) := by
  simp only [State.removeHold, hm, hplain, State.editRecord_eq_wrote hr, Bool.false_eq_true, if_false]
  rw [State.freeEntry_eq, hrole, wrote_counts]

theorem State.removeHold_of_upgrade (hr : s.record h = some r) (hm : s.member i = some m) (hrole : m.role = .hold)
    (hpending : m.upgradePending = true) :
    s.removeHold h i =
      wroteCounts m.agent
        { s.counts m.agent with
          holds := (s.counts m.agent).holds - 1, upgrades := (s.counts m.agent).upgrades - 1 }
        (freed i
          (wrote h { r with holders := r.holders.filter (fun j => decide (j ≠ i)), upgrade := none } (undue i m s))) := by
  simp only [State.removeHold, hm, hpending, State.editRecord_eq_wrote hr, if_true]
  rw [State.clearUpgrade_eq (wrote_record_self h _ s) (by rw [wrote_member, hm]), State.freeEntry_eq, hrole]
  cases hset : m.deadline.isSome <;>
    simp only [undue, hset, if_true, if_false, Bool.false_eq_true, wroteCounts, freed, wrote, wroteMember, delisted,
      sealed, State.counts, Table.put_put, Table.free_put, Per.get_put_self, Per.put_put]

theorem State.removeWait_eq (hr : s.record h = some r) (hm : s.member i = some m) (hrole : m.role = .wait) :
    s.removeWait h i =
      wroteCounts m.agent { s.counts m.agent with waits := (s.counts m.agent).waits - 1 }
        (freed i (wrote h { r with waiters := r.waiters.filter (fun j => decide (j ≠ i)) } (undue i m s))) := by
  simp only [State.removeWait, hm, State.editRecord_eq_wrote hr]
  rw [State.freeEntry_eq, hrole]
  unfold undue
  cases hset : m.deadline.isSome with
  | true =>
    rw [State.withdrawDeadline_of_set (m := m) (by rw [wrote_member, hm]) hset]
    simp only [wroteCounts, freed, wrote, wroteMember, delisted, State.counts, Table.free_put, if_true]
  | false =>
    rw [State.withdrawDeadline_of_unset hset (by rw [wrote_member, hm])]
    rfl

/-- The grant of a waiter (R48). -/
theorem State.grantWaiter_eq (hr : s.record h = some r) (hm : s.member i = some m) :
    s.grantWaiter h i =
      counted (.agent m.agent .grants)
        ((wroteCounts m.agent
          { s.counts m.agent with
            waits := (s.counts m.agent).waits - 1, holds := (s.counts m.agent).holds + 1 }
          (tokenTaken
            (wrote h
              { r with
                mode := if r.holders = [] then m.mode else r.mode
                waiters := r.waiters.filter (fun j => decide (j ≠ i))
                holders := r.holders ++ [i] }
              (wroteMember i
                { m with role := .hold, token := s.dir.nextToken, noticed := false, deadline := none }
                (undue i m s))))).notify m.agent (.granted h m.mode s.dir.nextToken m.tag false m.prompt)) := by
  have hcounts (x : Membership) (r' : Record) :
      ((wrote h r' (wroteMember i x (undue i m s))).advanceToken).counts m.agent = s.counts m.agent := by
    rw [State.advanceToken_counts, wrote_counts, wroteMember_counts, undue_counts]
  simp only [State.grantWaiter, hm]
  rw [State.editMember_withdrawDeadline hm (fun _ => rfl),
    State.editRecord_eq_wrote (r := r) (by rw [wroteMember_record, undue_record, hr]), State.editCounts_eq, hcounts,
    State.count_eq_counted]
  simp only [List.isEmpty_iff]
  rfl

end

/-- Settles O17: each removal in one update. -/
theorem removalsFreeTheMembership : Obligations.RemovalsFreeTheMembership := by
  intro s h i r m d hr hm hd
  subst hd
  exact ⟨State.removeHold_of_plain hr hm, State.removeHold_of_upgrade hr hm, State.removeWait_eq hr hm,
    State.clearUpgrade_eq hr hm⟩

/-! ### Contention (R37, R41, R47) -/

section
variable {s : State} {h i : Nat} {r : Record} {m : Membership} {wanted : Mode}

theorem State.contend_of_wanted (hm : s.member i = some m) (hnotice : m.notice = true) (hnew : m.noticed = false) :
    s.contend h wanted i =
      (wroteMember i { m with noticed := true } s).notify m.agent (.contended h m.token wanted) := by
  simp only [State.contend, hm, hnotice, hnew, Bool.false_eq_true, not_false_eq_true, and_self, if_true]
  rfl

theorem State.contend_of_unwanted (hm : s.member i = some m) (hnot : m.notice = false ∨ m.noticed = true) :
    s.contend h wanted i = s := by
  simp only [State.contend, hm]
  rcases hnot with hnot | hnot <;> simp [hnot]

theorem State.contentionCheck_of_no_waiter (hr : s.record h = some r) (hnil : r.waiters = []) :
    s.contentionCheck h i = s := by
  simp only [State.contentionCheck, hr, hnil]

theorem State.contentionCheck_of_waiter {w : Nat} {ws : List Nat} (hr : s.record h = some r)
    (hwaiters : r.waiters = w :: ws) (hm : s.member w = some m) : s.contentionCheck h i = s.contend h m.mode i := by
  simp only [State.contentionCheck, hr, hwaiters, hm]

end

/-- Settles O20: the grant of a waiter in one update, and one clause for each branch of the notices. -/
theorem grantOfAWaiterAndContentionNotice : Obligations.GrantOfAWaiterAndContentionNotice := by
  refine ⟨?_, fun s h i wanted m hm => ⟨State.contend_of_wanted hm, State.contend_of_unwanted hm⟩,
    fun s h i r hr => ⟨State.contentionCheck_of_no_waiter hr, fun w ws m hwaiters hm =>
      State.contentionCheck_of_waiter hr hwaiters hm⟩, fun s h i wanted l => ⟨rfl, rfl⟩⟩
  intro s h i r m d hr hm hd
  subst hd
  exact State.grantWaiter_eq hr hm

end Sys2Proof.Machine
end

section
/-! SUPPORT. The turn of a directory request, and the statements on the lease requests (R23, R27, R33 to R42). -/

namespace Sys2Proof.Machine

open Sys2Proof.Expect

/-! ### The turn of a directory request -/

/-- The operation of each directory request. -/
def directoryOp (a : AgentId) : ReqKind → Request → State → State × Result
  | .acquire => acquireOp a
  | .release => releaseOp a
  | .downgrade => downgradeOp a
  | .upgrade => upgradeOp a
  | .cancel => cancelOp a
  | .lookup => lookupOp
  | .list => listOp a
  | .openSession | .resume | .close | .flush => fun _ s => (s, .badRequest)

section
variable {s : State} {a : AgentId} {q : Request} {rest : List Request}

theorem exec_takes_directory {k : ReqKind} (hkind : isDirectoryKind k = true) (a : AgentId) (s : State) :
    exec (takes k a) s = .next (s.agentTurn a k (fun q => State.directoryRequest a (directoryOp a k q))) := by
  cases k <;> simp only [isDirectoryKind, Bool.false_eq_true] at hkind <;> rfl

/-- A directory request that is served ends with the state and the result that its operation gives on the state after the
take. -/
theorem exec_takes_of_served {r : Result} {t : State} (hserved : Served s a q rest)
    (hkind : isDirectoryKind q.body.kind = true)
    (hop : directoryOp a q.body.kind q (Expect.taken s a q rest) = (t, r)) :
    exec (takes q.body.kind a) s = .next (executed a q r t) := by
  have hrun := State.agentTurn_of_served hserved (directoryOp a q.body.kind)
  rw [hop] at hrun
  exact (exec_takes_directory hkind a s).trans (congrArg _ hrun)

theorem exec_takes_of_refused {r : Result} (hturn : AgentTurn s a q rest) (hkind : isDirectoryKind q.body.kind = true)
    (hrefusal : (Expect.taken s a q rest).directoryRefusal a = some r) :
    exec (takes q.body.kind a) s = .next (refused a q r (Expect.taken s a q rest)) := by
  rw [exec_takes_directory hkind]
  simp only [State.agentTurn, State.taken_of_agentTurn hturn, State.take_eq_taken, State.directoryRequest, hrefusal,
    State.finish_refused]

end

/-- Settles O8: the checks at take read of the state the session and the directory state, which the take leaves. -/
theorem directoryRequestIsRefusedAtTake : Obligations.DirectoryRequestIsRefusedAtTake := by
  intro s a q rest hturn hkind
  refine ⟨fun hstate => ?_, fun hstate => ?_, fun hstate => ?_, fun hstate hdir => ?_, fun hstate hdir => ?_⟩ <;>
    refine exec_takes_of_refused hturn hkind ?_
  · simp only [State.directoryRefusal, taken_session, hstate]
  · simp only [State.directoryRefusal, taken_session, hstate]
  · simp only [State.directoryRefusal, taken_session, hstate]
  · simp only [State.directoryRefusal, taken_session, hstate, taken_dir_state, hdir]
  · simp only [State.directoryRefusal, taken_session, hstate, taken_dir_state, hdir]

/-! ### ACQUIRE admitted as a wait (R36, R37) -/

section
variable {s : State} {a : AgentId} {q : Request} {rest : List Request}

theorem waitQuotaApplies_taken : WaitQuotaApplies (Expect.taken s a q rest) a ↔ WaitQuotaApplies s a := by
  simp only [WaitQuotaApplies, taken_mgmt_config, taken_counts]

theorem State.waitQuotaReached_iff (s : State) (a : AgentId) : s.waitQuotaReached a = true ↔ WaitQuotaApplies s a :=
  decide_eq_true_iff

/-- A membership reads of the state the agent's next stamp. -/
theorem made_taken (h : Nat) (role : Role) (mode : Mode) (token : Token) (tag : Tag) (notice prompt : Bool) :
    made (Expect.taken s a q rest) a h role mode token tag notice prompt =
      made s a h role mode token tag notice prompt := by
  simp only [made, taken_counts]

end

section
variable {s : State} {a : AgentId} {tag : Tag} {mode : Mode} {notice prompt : Bool} {deadline : BitVec 16} {h i : Nat}
  {r : Record}

theorem admitWait_of_membershipQuota (hquota : MembershipQuotaApplies s a) :
    admitWait a tag mode notice prompt deadline h r s = (s, .membershipQuota) := by
  simp only [admitWait, State.membershipQuotaReached_iff, hquota, if_true]

theorem admitWait_of_waitQuota (hquota : ¬ MembershipQuotaApplies s a) (hwaits : WaitQuotaApplies s a) :
    admitWait a tag mode notice prompt deadline h r s = (s, .waitQuota) := by
  simp only [admitWait, State.membershipQuotaReached_iff, State.waitQuotaReached_iff, hquota, hwaits, if_true, if_false]

theorem admitWait_of_pool_full (hquota : ¬ MembershipQuotaApplies s a) (hwaits : ¬ WaitQuotaApplies s a)
    (hpool : Full s.dir.pool 8192) : admitWait a tag mode notice prompt deadline h r s = (s, .poolFull) := by
  simp only [admitWait, State.membershipQuotaReached_iff, State.waitQuotaReached_iff, hquota, hwaits, if_false,
    Config.poolSize, Table.lowestFree_eq_none.mpr hpool]

theorem admitWait_of_stalled_queue (hquota : ¬ MembershipQuotaApplies s a) (hwaits : ¬ WaitQuotaApplies s a)
    (hentry : LowestFree s.dir.pool 8192 i) (hnobody : r.holders = []) (hlong : 7 ≤ r.waiters.length) :
    admitWait a tag mode notice prompt deadline h r s = (s, .sequenceExhausted) := by
  simp only [admitWait, State.membershipQuotaReached_iff, State.waitQuotaReached_iff, hquota, hwaits, if_false,
    Config.poolSize, Table.lowestFree_eq_some.mpr hentry, hnobody, List.isEmpty_nil, Config.maxWaiters, true_and,
    if_pos hlong]

theorem admitWait_of_free (hr : s.record h = some r) (hquota : ¬ MembershipQuotaApplies s a)
    (hwaits : ¬ WaitQuotaApplies s a) (hentry : LowestFree s.dir.pool 8192 i)
    (hroom : ¬ (r.holders = [] ∧ 7 ≤ r.waiters.length)) :
    admitWait a tag mode notice prompt deadline h r s =
      (counted (.agent a .waitsAdmitted)
        (((wrote h { r with waiters := r.waiters ++ [i] }
          (wroteCounts a { s.counts a with waits := (s.counts a).waits + 1, nextStamp := (s.counts a).nextStamp + 1 }
            (wroteMember i (made s a h .wait mode 0 tag notice prompt) s))).registerDeadline i .wait
              deadline).contendAll h mode r.holders),
        .queued h) := by
  have hkept (m : Membership) : (s.allocate i m).record h = some r := hr
  have hroom' : ¬ (r.holders.isEmpty = true ∧ Config.maxWaiters ≤ r.waiters.length) := by
    rwa [List.isEmpty_iff]
  simp only [admitWait, State.membershipQuotaReached_iff, State.waitQuotaReached_iff, hquota, hwaits, if_false,
    Config.poolSize, Table.lowestFree_eq_some.mpr hentry, if_neg hroom', State.editRecord_eq_wrote (hkept _)]
  rfl

theorem acquireExisting_of_admitted (hheld : s.memberOf a r.holders = none) (hwaits : s.memberOf a r.waiters = none)
    (hcontended : ¬ (mode = .shared ∧ r.mode = .shared ∧ r.waiters = [] ∧ r.upgrade = none)) :
    acquireExisting a tag mode false prompt notice deadline h r s =
      admitWait a tag mode notice prompt deadline h r s := by
  simp only [acquireExisting, hheld, hwaits, if_neg (mt (compatibleNow_iff mode r).mp hcontended), Bool.false_eq_true,
    if_false]

end

/-- Settles O11: past the take, the sound reads and the incompatibility the operation is `admitWait`, whose checks read of the
state what the take leaves. -/
theorem acquireIsAdmittedAsAWait : Obligations.AcquireIsAdmittedAsAWait := by
  intro s a q rest ns mode prompt notice deadline key h r u hserved hbody hu hname hsound hheld hwaits hrecord hcontended
  subst hu
  have hrun {x : Result} {t : State}
      (hop : admitWait a q.tag mode notice prompt deadline h r (Expect.taken s a q rest) = (t, x)) :
      exec (.acquire a) s = .next (executed a q x t) :=
    exec_acquire_of_served hserved hbody
      (((acquireOp_of_sound hbody hname hsound).trans (acquireExisting_of_admitted hheld hwaits hcontended)).trans hop)
  rw [← membershipQuotaApplies_taken (q := q) (rest := rest), ← waitQuotaApplies_taken (q := q) (rest := rest)]
  refine ⟨fun hquota => hrun (admitWait_of_membershipQuota hquota),
    fun hquota hlimit => hrun (admitWait_of_waitQuota hquota hlimit),
    fun hquota hlimit hpool => hrun (admitWait_of_pool_full hquota hlimit (full_pool_taken.mpr hpool)),
    fun i hquota hlimit hentry hnobody hlong =>
      hrun (admitWait_of_stalled_queue hquota hlimit (lowestFree_pool_taken.mpr hentry) hnobody hlong),
    fun i hquota hlimit hentry hroom => ?_⟩
  rw [← made_taken (q := q) (rest := rest), ← taken_counts (s := s) (q := q) (rest := rest)]
  exact hrun (admitWait_of_free hrecord hquota hlimit (lowestFree_pool_taken.mpr hentry) hroom)

/-! ### The five checks of a hold (R27) -/

section
variable {s : State} {a : AgentId} {handle : BitVec 16} {token : Token} {r : Record} {i : Nat} {m : Membership}
  {op : Nat → Record → Nat → Membership → State → State × Result}

theorem State.onHold_of_quarantined {c : Bool} (hslot : s.slot handle.toNat = some (.quarantined c r)) :
    s.onHold a handle token op = (s, .recordFault handle.toNat) := by
  simp only [State.onHold, hslot]

theorem State.onHold_of_free (hslot : s.slot handle.toNat = none) :
    s.onHold a handle token op = (s, .notHeld handle.toNat) := by
  simp only [State.onHold, hslot]

theorem State.onHold_of_stranger (hslot : s.slot handle.toNat = some (.live r)) (hsound : s.verify r = .sound)
    (hheld : s.memberOf a r.holders = none) : s.onHold a handle token op = (s, .notHeld handle.toNat) := by
  simp only [State.onHold, hslot, State.onRecord, hsound, hheld]

theorem State.onHold_of_stale (hslot : s.slot handle.toNat = some (.live r)) (hsound : s.verify r = .sound)
    (hheld : s.memberOf a r.holders = some (i, m)) (hstale : m.token ≠ token) :
    s.onHold a handle token op = (s, .staleToken handle.toNat) := by
  simp only [State.onHold, hslot, State.onRecord, hsound, hheld, if_pos hstale]

theorem State.onHold_of_holder (hslot : s.slot handle.toNat = some (.live r)) (hsound : s.verify r = .sound)
    (hheld : s.memberOf a r.holders = some (i, m)) (htoken : m.token = token) :
    s.onHold a handle token op = op handle.toNat r i m s := by
  simp only [State.onHold, hslot, State.onRecord, hsound, hheld, ne_eq, htoken, not_true_eq_false, if_false]

end

section
variable {s : State} {a : AgentId} {q : Request} {rest : List Request} {handle : BitVec 16} {token : Token}

/-- A request that names a hold runs behind the five checks. -/
theorem directoryOp_of_holdNamed (hbody : holdNamed q.body = some (handle, token)) :
    isDirectoryKind q.body.kind = true ∧
      ∃ op, ∀ u, directoryOp a q.body.kind q u = u.onHold a handle token op := by
  cases hq : q.body <;> simp only [hq, holdNamed, reduceCtorEq, Option.some.injEq, Prod.mk.injEq] at hbody
  case release h t =>
    obtain ⟨rfl, rfl⟩ := hbody
    exact ⟨rfl, releaseHold, fun u => by simp only [directoryOp, RequestBody.kind, releaseOp, hq]⟩
  case downgrade h t =>
    obtain ⟨rfl, rfl⟩ := hbody
    exact ⟨rfl, downgradeHold, fun u => by simp only [directoryOp, RequestBody.kind, downgradeOp, hq]⟩
  case upgrade h t p d =>
    obtain ⟨rfl, rfl⟩ := hbody
    exact ⟨rfl, upgradeHold a q.tag p d, fun u => by simp only [directoryOp, RequestBody.kind, upgradeOp, hq]⟩

end

/-- Settles O12: the three requests share `State.onHold`, one branch for each clause. -/
theorem holdIsValidatedByHandleAndToken : Obligations.HoldIsValidatedByHandleAndToken := by
  intro s a q rest handle token hserved hbody
  obtain ⟨hkind, op, hop⟩ := directoryOp_of_holdNamed (a := a) hbody
  have hrun {x : Result} {t : State}
      (hchecks : (Expect.taken s a q rest).onHold a handle token op = (t, x)) :
      exec (takes q.body.kind a) s = .next (executed a q x t) :=
    exec_takes_of_served hserved hkind ((hop _).trans hchecks)
  exact ⟨fun c r hslot => hrun (State.onHold_of_quarantined hslot), fun hslot => hrun (State.onHold_of_free hslot),
    fun r hslot hsound hheld => hrun (State.onHold_of_stranger hslot hsound hheld),
    fun r i m hslot hsound hheld hstale => hrun (State.onHold_of_stale hslot hsound hheld hstale)⟩

/-! ### What an operation on one record leaves -/

/-- What leads from `s` to `t` leaves the other slots, and makes no membership. -/
structure OnRecord (h : Nat) (s t : State) : Prop where
  slot : ∀ k, k ≠ h → t.slot k = s.slot k
  member : ∀ j, s.member j = none → t.member j = none

theorem OnRecord.trans {h : Nat} {s t u : State} (hst : OnRecord h s t) (htu : OnRecord h t u) : OnRecord h s u where
  slot k hk := (htu.slot k hk).trans (hst.slot k hk)
  member j hj := htu.member j (hst.member j hj)

theorem OnRecord.of_eq {h : Nat} {s t : State} (hslots : t.dir.slots = s.dir.slots) (hpool : t.dir.pool = s.dir.pool) :
    OnRecord h s t where
  slot k _ := by simp only [State.slot, hslots]
  member j hj := by simpa only [State.member, hpool] using hj

theorem OnRecord.refl (h : Nat) (s : State) : OnRecord h s s := .of_eq rfl rfl

theorem ModeratorFrame.onRecord {h : Nat} {s t : State} (hst : ModeratorFrame s t) : OnRecord h s t :=
  .of_eq (by rw [hst.dir]) (by rw [hst.dir])

section
variable (s : State) (h i : Nat)

theorem State.putMember_onRecord {m : Membership} (m' : Membership) (hm : s.member i = some m) :
    OnRecord h s (s.putMember i m') where
  slot _ _ := rfl
  member j hj := by
    have hne : j ≠ i := by
      rintro rfl
      simp [hm] at hj
    exact (Table.get_put_of_ne _ _ hne).trans hj

theorem State.editMember_onRecord (f : Membership → Membership) : OnRecord h s (s.editMember i f) := by
  simp only [State.editMember]
  split
  · next m hm => exact s.putMember_onRecord h i _ hm
  · exact .refl h s

theorem State.editRecord_onRecord (f : Record → Record) : OnRecord h s (s.editRecord h f) := by
  simp only [State.editRecord]
  split
  · exact { slot := fun k hk => Table.get_put_of_ne _ _ hk, member := fun _ hj => hj }
  · exact .refl h s

theorem State.freeEntry_onRecord (m : Membership) : OnRecord h s (s.freeEntry i m) where
  slot _ _ := rfl
  member j hj := by
    change Table.get (Table.free s.dir.pool i) j = none
    rw [Table.get_free]
    split
    · rfl
    · exact hj

theorem State.withdrawDeadline_onRecord : OnRecord h s (s.withdrawDeadline i) := by
  simp only [State.withdrawDeadline]
  repeat' split
  · exact .refl h s
  · next m hm _ => exact (s.putMember_onRecord h i { m with deadline := none } hm).trans (.of_eq rfl rfl)
  · exact .refl h s

theorem State.clearUpgrade_onRecord : OnRecord h s (s.clearUpgrade h i) := by
  simp only [State.clearUpgrade]
  split
  · exact .refl h s
  · exact (((s.withdrawDeadline_onRecord h i).trans (State.editMember_onRecord _ h i _)).trans
      (State.editRecord_onRecord _ h _)).trans (.of_eq rfl rfl)

theorem State.removeHold_onRecord : OnRecord h s (s.removeHold h i) := by
  simp only [State.removeHold]
  split
  · exact .refl h s
  · refine OnRecord.trans ?_ (State.freeEntry_onRecord _ h i _)
    split
    · exact (s.editRecord_onRecord h _).trans (State.clearUpgrade_onRecord _ h i)
    · exact s.editRecord_onRecord h _

theorem State.removeWait_onRecord : OnRecord h s (s.removeWait h i) := by
  simp only [State.removeWait]
  split
  · exact .refl h s
  · exact ((s.editRecord_onRecord h _).trans (State.withdrawDeadline_onRecord _ h i)).trans
      (State.freeEntry_onRecord _ h i _)

theorem State.contend_onRecord (wanted : Mode) : OnRecord h s (s.contend h wanted i) := by
  simp only [State.contend]
  repeat' split
  · exact .refl h s
  · next m hm _ => exact (s.putMember_onRecord h i _ hm).trans (State.notify_frame _ _ _).onRecord
  · exact .refl h s

theorem State.contentionCheck_onRecord : OnRecord h s (s.contentionCheck h i) := by
  simp only [State.contentionCheck]
  repeat' split
  · exact .refl h s
  · exact .refl h s
  · exact .refl h s
  · exact s.contend_onRecord h i _

theorem State.contentionChecks_onRecord (l : List Nat) :
    OnRecord h s (l.foldl (fun s i => s.contentionCheck h i) s) := by
  induction l generalizing s with
  | nil => exact .refl h s
  | cons j l ih => exact (s.contentionCheck_onRecord h j).trans (ih _)

theorem State.makeExclusive_onRecord : OnRecord h s (s.makeExclusive h i) :=
  ((s.editRecord_onRecord h _).trans (State.editMember_onRecord _ h i _)).trans (.of_eq rfl rfl)

theorem State.grantUpgrade_onRecord : OnRecord h s (s.grantUpgrade h i) := by
  simp only [State.grantUpgrade]
  split
  · exact .refl h s
  · refine OnRecord.trans ?_ (State.contentionCheck_onRecord _ h i)
    exact (((s.clearUpgrade_onRecord h i).trans (State.makeExclusive_onRecord _ h i)).trans
      (State.notify_frame _ _ _).onRecord).trans (State.countAgent_frame _ _ _).onRecord

theorem State.upgradeStage_onRecord : OnRecord h s (s.upgradeStage h).1 := by
  simp only [State.upgradeStage]
  repeat' split
  · exact .refl h s
  · exact .refl h s
  · exact .refl h s
  · exact s.clearUpgrade_onRecord h _
  · exact s.grantUpgrade_onRecord h _
  · exact .refl h s

theorem State.grantWaiter_onRecord : OnRecord h s (s.grantWaiter h i) := by
  simp only [State.grantWaiter]
  split
  · exact .refl h s
  · refine OnRecord.trans ?_ (State.countAgent_frame _ _ _).onRecord
    refine OnRecord.trans ?_ (State.notify_frame _ _ _).onRecord
    exact (((s.withdrawDeadline_onRecord h i).trans (State.editMember_onRecord _ h i _)).trans
      (State.editRecord_onRecord _ h _)).trans (.of_eq rfl rfl)

theorem State.grantRun_onRecord (n : Nat) (g : List Nat) : OnRecord h s (State.grantRun h n g s).1 := by
  induction n generalizing g s with
  | zero => exact .refl h s
  | succ n ih =>
    simp only [State.grantRun]
    repeat' split
    · exact .refl h s
    · exact .refl h s
    · exact .refl h s
    · exact (s.removeWait_onRecord h _).trans (ih _ _)
    · exact .refl h s
    · exact (s.grantWaiter_onRecord h _).trans (ih _ _)
    · exact .refl h s
    · exact .refl h s

theorem State.waiterStage_onRecord : OnRecord h s (s.waiterStage h) := by
  simp only [State.waiterStage]
  split
  · exact .refl h s
  · exact (s.grantRun_onRecord h _ _).trans (State.contentionChecks_onRecord _ h _)

theorem State.retireIfEmpty_onRecord : OnRecord h s (s.retireIfEmpty h) := by
  simp only [State.retireIfEmpty]
  repeat' split
  · exact { slot := fun k hk => Table.get_free_of_ne _ hk, member := fun _ hj => hj }
  · exact .refl h s
  · exact .refl h s

/-- The grant pass leaves the other slots, and makes no membership. -/
theorem State.grantPass_onRecord : OnRecord h s (s.grantPass h) := by
  simp only [State.grantPass]
  refine OnRecord.trans ?_ (State.retireIfEmpty_onRecord _ h)
  split
  · exact s.upgradeStage_onRecord h
  · exact (s.upgradeStage_onRecord h).trans (State.waiterStage_onRecord _ h)

end

/-! ### A record without holders and waiters retires (R8, R49) -/

section
variable {s : State} {h i : Nat} {r : Record} {m : Membership}

theorem State.retireIfEmpty_of_empty (hr : s.record h = some r) (hholders : r.holders = []) (hwaiters : r.waiters = []) :
    s.retireIfEmpty h = s.freeSlot h := by
  simp only [State.retireIfEmpty, hr, hholders, hwaiters, List.isEmpty_nil, and_self, if_true]

/-- A record without holders has no upgrade to grant; clearing one leaves its lists. -/
theorem State.upgradeStage_of_no_holders (hr : s.record h = some r) (hholders : r.holders = []) :
    (s.upgradeStage h).2 = false ∧
      ∃ r', (s.upgradeStage h).1.record h = some r' ∧ r'.holders = r.holders ∧ r'.waiters = r.waiters := by
  simp only [State.upgradeStage, hr]
  split
  · exact ⟨rfl, r, hr, rfl, rfl⟩
  · next i _ =>
    split
    · exact ⟨rfl, r, hr, rfl, rfl⟩
    · next m hm =>
      split
      · exact ⟨rfl, _, State.clearUpgrade_record hr hm, rfl, rfl⟩
      · rw [if_neg (by simp [hholders])]
        exact ⟨rfl, r, hr, rfl, rfl⟩

theorem State.waiterStage_of_no_waiters (hr : s.record h = some r) (hwaiters : r.waiters = []) : s.waiterStage h = s := by
  simp only [State.waiterStage, hr, hwaiters, List.length_nil, State.grantRun, List.foldl_nil]

theorem State.grantPass_of_empty (hr : s.record h = some r) (hholders : r.holders = []) (hwaiters : r.waiters = []) :
    (s.grantPass h).slot h = none := by
  obtain ⟨hflag, r', hr', hholders', hwaiters'⟩ := State.upgradeStage_of_no_holders hr hholders
  simp only [State.grantPass, hflag, Bool.false_eq_true, if_false]
  rw [State.waiterStage_of_no_waiters hr' (hwaiters'.trans hwaiters),
    State.retireIfEmpty_of_empty hr' (hholders'.trans hholders) (hwaiters'.trans hwaiters)]
  exact Table.get_free_self _ _

theorem State.removeHold_member_self (hm : s.member i = some m) : (s.removeHold h i).member i = none := by
  simp only [State.removeHold, hm]
  exact Table.get_free_self _ _

/-- The removed hold has left the holders; the waiters stay. -/
theorem State.removeHold_record (hr : s.record h = some r) (hm : s.member i = some m) :
    ∃ r', (s.removeHold h i).record h = some r' ∧ r'.holders = r.holders.filter (fun j => decide (j ≠ i)) ∧
      r'.waiters = r.waiters := by
  have free (t : State) : (t.freeEntry i m).record h = t.record h := rfl
  simp only [State.removeHold, hm, State.editRecord_eq_wrote hr, free]
  split
  · exact ⟨_, State.clearUpgrade_record (wrote_record_self h _ s) (by rw [wrote_member, hm]), rfl, rfl⟩
  · exact ⟨_, wrote_record_self h _ s, rfl, rfl⟩

end

/-! ### RELEASE, DOWNGRADE, UPGRADE, CANCEL -/

/-- Settles O13: past the checks the operation is the removal and the grant pass, which makes no membership and touches no
other slot. -/
theorem releaseRemovesTheHold : Obligations.ReleaseRemovesTheHold := by
  intro s a q rest handle token r i m u hserved hbody hu hslot hsound hheld htoken
  subst hu
  obtain ⟨hm, -, -⟩ := State.memberOf_member hheld
  have hremoved := State.removeHold_onRecord (Expect.taken s a q rest) handle.toNat i
  have hpass := State.grantPass_onRecord ((Expect.taken s a q rest).removeHold handle.toNat i) handle.toNat
  refine ⟨?_, hpass.member i (State.removeHold_member_self hm), (hremoved.trans hpass).slot, fun hsole hnobody => ?_⟩
  · have hrun := exec_takes_of_served (t := ((Expect.taken s a q rest).removeHold handle.toNat i).grantPass handle.toNat)
      (r := .released handle.toNat) hserved (by rw [hbody]; rfl)
      (by
        rw [hbody]
        simp only [directoryOp, RequestBody.kind, releaseOp, hbody]
        exact State.onHold_of_holder hslot hsound hheld htoken)
    rwa [hbody] at hrun
  · obtain ⟨r', hr', hholders, hwaiters⟩ := State.removeHold_record (State.record_of_slot hslot) hm
    refine State.grantPass_of_empty hr' ?_ (hwaiters.trans hnobody)
    rw [hholders, hsole]
    simp

/-- Settles O14: past the checks the operation is `downgradeHold`, one branch for each mode. -/
theorem downgradeKeepsTheToken : Obligations.DowngradeKeepsTheToken := by
  intro s a q rest handle token r i m u hserved hbody hu hslot hsound hheld htoken
  subst hu
  obtain ⟨hm, -, -⟩ := State.memberOf_member hheld
  have hrun {x : Result} {t : State}
      (hop : downgradeHold handle.toNat r i m (Expect.taken s a q rest) = (t, x)) :
      exec (.downgrade a) s = .next (executed a q x t) := by
    have hserve := exec_takes_of_served (t := t) (r := x) hserved (by rw [hbody]; rfl)
      (by
        rw [hbody]
        simp only [directoryOp, RequestBody.kind, downgradeOp, hbody]
        exact (State.onHold_of_holder hslot hsound hheld htoken).trans hop)
    rwa [hbody] at hserve
  refine ⟨fun hmode => hrun (by simp only [downgradeHold, hmode]), fun hmode => hrun ?_⟩
  simp only [downgradeHold, hmode, State.editRecord_eq_wrote (State.record_of_slot hslot)]
  rw [State.editMember_of_member _ (m := m) (by rw [wrote_member, hm])]
  rfl

section
variable {s : State} {a : AgentId} {tag : Tag} {prompt : Bool} {deadline : BitVec 16} {h i : Nat} {r : Record}
  {m : Membership}

/-- The hold becomes EXCLUSIVE with the next token (R40, R45). -/
theorem State.makeExclusive_eq (hr : s.record h = some r) (hm : s.member i = some m) :
    s.makeExclusive h i =
      tokenTaken
        (wroteMember i { m with mode := .exclusive, token := s.dir.nextToken, noticed := false }
          (wrote h { r with mode := .exclusive } s)) := by
  simp only [State.makeExclusive, State.editRecord_eq_wrote hr]
  rw [State.editMember_of_member _ (m := m) (by rw [wrote_member, hm])]
  rfl

/-- An UPGRADE by the sole holder writes the request's tag and prompt flag too (R40). -/
theorem upgradeNow_of_not_exhausted (hr : s.record h = some r) (hm : s.member i = some m) (hpos : s.dir.nextToken ≠ 0) :
    upgradeNow a tag prompt h i s =
      ((counted (.agent a .grants)
        (tokenTaken
          (wroteMember i
            { m with mode := .exclusive, token := s.dir.nextToken, noticed := false, tag := tag, prompt := prompt }
            (wrote h { r with mode := .exclusive } s)))).contentionCheck h i,
        .granted h .exclusive s.dir.nextToken) := by
  have hmember (x : Membership) (u : State) :
      (tokenTaken (wroteMember i x u)).member i = some { x with checkOk := true } := Table.get_put_self _ _ _
  simp only [upgradeNow, State.exhausted_iff, if_neg hpos, State.makeExclusive_eq hr hm]
  rw [State.editMember_of_member _ (hmember _ _), State.count_eq_counted]
  simp only [State.putMember, tokenTaken, wroteMember, Table.put_put]

theorem State.registerDeadline_dir_counts (s : State) (i : Nat) (kind : DeadlineKind) (d : BitVec 16) (a : AgentId) :
    (s.registerDeadline i kind d).counts a = s.counts a := by
  simp only [State.registerDeadline]
  repeat' split
  all_goals rfl

theorem upgradeHold_of_shared (hmode : m.mode = .shared) (hshared : r.holders ≠ [i]) (hnone : r.upgrade = none) :
    upgradeHold a tag prompt deadline h r i m s = setUpgrade a tag prompt deadline h r i s := by
  simp only [upgradeHold, hmode, if_neg hshared, hnone]

theorem setUpgrade_of_quota (hquota : WaitQuotaApplies s a) :
    setUpgrade a tag prompt deadline h r i s = (s, .waitQuota) :=
  if_pos ((s.waitQuotaReached_iff a).mpr hquota)

theorem setUpgrade_of_admitted (hr : s.record h = some r) (hm : s.member i = some m) (hquota : ¬ WaitQuotaApplies s a) :
    setUpgrade a tag prompt deadline h r i s =
      ((counted (.agent a .waitsAdmitted)
        (wroteCounts a { s.counts a with upgrades := (s.counts a).upgrades + 1 }
          (((wrote h { r with upgrade := some i }
            (wroteMember i { m with upgradePending := true, tag := tag, prompt := prompt, deadline := none }
              s)).removeDeadline i).registerDeadline i .upgrade deadline))).contendAll h .exclusive
        (r.holders.filter (fun j => decide (j ≠ i))), .queued h) := by
  have hcounts (t : State) : (t.removeDeadline i).counts a = t.counts a := rfl
  have hkept (x : Membership) : (s.putMember i x).record h = some r := hr
  simp only [setUpgrade, if_neg (mt (s.waitQuotaReached_iff a).mp hquota), State.editMember_of_member _ hm]
  rw [State.editRecord_eq_wrote (hkept _), State.editCounts_eq, State.registerDeadline_dir_counts, hcounts,
    State.count_eq_counted]
  rfl

end

/-- Settles O15: past the checks the operation is `upgradeHold`, one branch for each clause. -/
theorem upgradeIsGrantedOrSetPending : Obligations.UpgradeIsGrantedOrSetPending := by
  intro s a q rest handle token prompt deadline r i m u hserved hbody hu hslot hsound hheld htoken
  subst hu
  obtain ⟨hm, -, -⟩ := State.memberOf_member hheld
  have hr := State.record_of_slot hslot
  have hrun {x : Result} {t : State}
      (hop : upgradeHold a q.tag prompt deadline handle.toNat r i m (Expect.taken s a q rest) = (t, x)) :
      exec (.upgrade a) s = .next (executed a q x t) := by
    have hserve := exec_takes_of_served (t := t) (r := x) hserved (by rw [hbody]; rfl)
      (by
        rw [hbody]
        simp only [directoryOp, RequestBody.kind, upgradeOp, hbody]
        exact (State.onHold_of_holder hslot hsound hheld htoken).trans hop)
    rwa [hbody] at hserve
  rw [← waitQuotaApplies_taken (q := q) (rest := rest)]
  refine ⟨fun hmode => hrun (by simp only [upgradeHold, hmode]), fun hmode hsole => ⟨fun hzero => hrun ?exhausted,
    fun hpos => hrun ?granted⟩, fun hmode hshared => ⟨fun j hj hne => hrun ?conflict, fun hj => hrun ?waiting,
    fun hnone hquota => hrun ?quota, fun hnone hquota => hrun ?pending⟩⟩
  case exhausted => simp only [upgradeHold, hmode, if_pos hsole, upgradeNow, State.exhausted_iff, if_pos hzero]
  case granted =>
    simp only [upgradeHold, hmode, if_pos hsole]
    exact upgradeNow_of_not_exhausted hr hm hpos
  case conflict => simp only [upgradeHold, hmode, if_neg hshared, hj, if_neg hne]
  case waiting => simp only [upgradeHold, hmode, if_neg hshared, hj, if_true]
  case quota => exact (upgradeHold_of_shared hmode hshared hnone).trans (setUpgrade_of_quota hquota)
  case pending => exact (upgradeHold_of_shared hmode hshared hnone).trans (setUpgrade_of_admitted hr hm hquota)

/-- Settles O16: CANCEL by the content of its slot and the first membership of the agent on the record's lists. -/
theorem cancelWithdrawsTheWaitOrTheUpgrade : Obligations.CancelWithdrawsTheWaitOrTheUpgrade := by
  intro s a q rest handle u hserved hbody hu
  subst hu
  have hrun {x : Result} {t : State} (hop : cancelOp a q (Expect.taken s a q rest) = (t, x)) :
      exec (.cancel a) s = .next (executed a q x t) := by
    have hserve := exec_takes_of_served (t := t) (r := x) hserved (by rw [hbody]; rfl)
      (by
        rw [hbody]
        exact hop)
    rwa [hbody] at hserve
  refine ⟨fun c r hslot => hrun ?_, fun hslot => hrun ?_, fun r hslot hsound => ?_⟩
  · simp only [cancelOp, hbody, hslot]
  · simp only [cancelOp, hbody, hslot]
  · have hlive : cancelOp a q (Expect.taken s a q rest) = cancelOn a handle.toNat r (Expect.taken s a q rest) := by
      simp only [cancelOp, hbody, hslot, State.onRecord, hsound]
    refine ⟨fun i m hwaits => hrun (hlive.trans ?_), fun i m hno hholds hpending => hrun (hlive.trans ?_),
      fun i m hno hholds hpending => hrun (hlive.trans ?_), fun hno hnot => hrun (hlive.trans ?_)⟩
    · simp only [cancelOn, hwaits]
    · simp only [cancelOn, hno, hholds, hpending, if_true]
    · simp only [cancelOn, hno, hholds, hpending, Bool.false_eq_true, if_false]
    · simp only [cancelOn, hno, hnot]

end Sys2Proof.Machine
end

section
/-! SUPPORT. The reads of an operation and the failures of their checks, the queries, and the expire-wait (R2, R12, R54, R59 to
R61, R70 to R73, R98, R150 to R154). -/

namespace Sys2Proof.Machine

open Sys2Proof.Expect

/-! ### Verification (R12, R150) -/

section
variable {s : State} {r : Record}

theorem State.memberSound_eq_false_iff (s : State) (i : Nat) :
    s.memberSound i = false ↔ ∃ m, s.member i = some m ∧ m.checkOk = false := by
  simp only [State.memberSound]
  split
  · next m hm => simp [hm]
  · next hm => simp [hm]

theorem State.memberSound_iff (s : State) (i : Nat) :
    s.memberSound i = true ↔ ∀ m, s.member i = some m → m.checkOk = true := by
  simp only [State.memberSound]
  split
  · next m hm => simp [hm]
  · next hm => simp [hm]

theorem State.verify_sound_iff :
    s.verify r = .sound ↔
      r.checkOk = true ∧ ∀ i ∈ r.holders ++ r.waiters, ∀ m, s.member i = some m → m.checkOk = true := by
  simp only [State.verify, ← State.memberSound_iff, ← List.all_eq_true]
  cases r.checkOk <;> cases (r.holders ++ r.waiters).all s.memberSound <;> simp

theorem State.verify_recordFault_iff : s.verify r = .recordFault ↔ r.checkOk = false := by
  simp only [State.verify]
  cases r.checkOk <;> cases (r.holders ++ r.waiters).all s.memberSound <;> simp

theorem State.verify_memberFault_iff :
    s.verify r = .memberFault ↔
      r.checkOk = true ∧ ∃ i ∈ r.holders ++ r.waiters, ∃ m, s.member i = some m ∧ m.checkOk = false := by
  have hall : (∃ i ∈ r.holders ++ r.waiters, ∃ m, s.member i = some m ∧ m.checkOk = false) ↔
      (r.holders ++ r.waiters).all s.memberSound = false := by
    simp only [← State.memberSound_eq_false_iff, List.all_eq_false, Bool.not_eq_true]
  rw [hall, State.verify]
  cases r.checkOk <;> cases (r.holders ++ r.waiters).all s.memberSound <;> simp

/-- The answer to a request whose record fails its check (R98, R151). -/
theorem State.onRecord_of_recordFault {h : Nat} {op : State → State × Result} (hfault : s.verify r = .recordFault) :
    State.onRecord h r op s = (quarantined h r s, .recordFault h) := by
  simp only [State.onRecord, hfault, State.quarantine_eq_quarantined]

/-- The answer to a request one of whose memberships fails its check (R153). -/
theorem State.onRecord_of_memberFault {h : Nat} {op : State → State × Result} (hfault : s.verify r = .memberFault) :
    State.onRecord h r op s = (halted .membershipFault s, .halted) := by
  simp only [State.onRecord, hfault, State.memberFault_eq_halted]

end

/-! ### The damage of the moment (log entry 4) -/

section
variable {s : State} {rest : List Upset}

theorem State.sufferUpset_of_nil (h : s.upsets = []) : s.sufferUpset = s := by
  simp only [State.sufferUpset, h]

theorem State.sufferUpset_of_none (h : s.upsets = .none :: rest) : s.sufferUpset = { s with upsets := rest } := by
  simp only [State.sufferUpset, h]

theorem State.sufferUpset_of_slot {h : Nat} {r : Record} (hu : s.upsets = .slot h :: rest) (hr : s.record h = some r) :
    s.sufferUpset =
      { s with
        upsets := rest
        dir := { s.dir with slots := Table.put s.dir.slots h (.live { r with checkOk := false }) } } := by
  have hrecord : State.record { s with upsets := rest } h = some r := hr
  simp only [State.sufferUpset, hu, hrecord, State.putSlot]

theorem State.sufferUpset_of_no_record {h : Nat} (hu : s.upsets = .slot h :: rest) (hr : s.record h = none) :
    s.sufferUpset = { s with upsets := rest } := by
  have hrecord : State.record { s with upsets := rest } h = none := hr
  simp only [State.sufferUpset, hu, hrecord]

theorem State.sufferUpset_of_entry {i : Nat} {m : Membership} (hu : s.upsets = .entry i :: rest)
    (hm : s.member i = some m) :
    s.sufferUpset =
      { s with upsets := rest, dir := { s.dir with pool := Table.put s.dir.pool i { m with checkOk := false } } } := by
  have hmember : State.member { s with upsets := rest } i = some m := hm
  simp only [State.sufferUpset, hu, hmember]

theorem State.sufferUpset_of_no_member {i : Nat} (hu : s.upsets = .entry i :: rest) (hm : s.member i = none) :
    s.sufferUpset = { s with upsets := rest } := by
  have hmember : State.member { s with upsets := rest } i = none := hm
  simp only [State.sufferUpset, hu, hmember]

end

/-! ### The key match and the search of a list (R2) -/

/-- The name of a LIVE slot. -/
def nameOf (e : Nat × Slot) : Option (Byte × Key) :=
  match e.2 with
  | .live r => some (r.ns, r.key)
  | .quarantined _ _ => none

theorem namesOk_iff (s : State) : NamesOk s ↔ (s.dir.slots.filterMap nameOf).Nodup := Iff.rfl

theorem State.findName_name {s : State} {ns : Byte} {key : Key} {h : Nat} {r : Record}
    (hname : s.findName ns key = some (h, r)) : r.ns = ns ∧ r.key = key := by
  obtain ⟨⟨k, x⟩, -, hx⟩ := List.exists_of_findSome?_eq_some hname
  cases x with
  | live r' =>
    simp only at hx
    split at hx
    · next hsame => cases hx; exact hsame
    · cases hx
  | quarantined _ _ => cases hx

/-- Among slots with distinct names the search finds the slot with the name. -/
theorem findName_of_mem {h : Nat} {r : Record} {slots : Table Slot} (hnames : (slots.filterMap nameOf).Nodup)
    (hmem : (h, Slot.live r) ∈ slots) :
    slots.findSome? (fun e =>
      match e.2 with
      | .live x => if x.ns = r.ns ∧ x.key = r.key then some (e.1, x) else none
      | .quarantined _ _ => none) = some (h, r) := by
  induction slots with
  | nil => cases hmem
  | cons e slots ih =>
    obtain ⟨k, x⟩ := e
    rcases List.mem_cons.mp hmem with hhead | htail
    · obtain ⟨rfl, rfl⟩ := Prod.mk.inj hhead
      simp
    · rw [List.filterMap_cons] at hnames
      cases x with
      | quarantined c x =>
        rw [List.findSome?_cons]
        exact ih hnames htail
      | live x =>
        have hcons := List.nodup_cons.mp hnames
        have hother : ¬ (x.ns = r.ns ∧ x.key = r.key) := by
          rintro ⟨hns, hkey⟩
          exact hcons.1 (List.mem_filterMap.mpr ⟨_, htail, by simp [nameOf, hns, hkey]⟩)
        rw [List.findSome?_cons]
        simp only [hother, if_false]
        exact ih hcons.2 htail

theorem State.findName_iff {s : State} {ns : Byte} {key : Key} {h : Nat} {r : Record} (hcanonical : TablesCanonical s)
    (hnames : NamesOk s) :
    s.findName ns key = some (h, r) ↔ s.slot h = some (.live r) ∧ r.ns = ns ∧ r.key = key := by
  constructor
  · intro hname
    exact ⟨(Table.get_eq_some_iff hcanonical.1 _ _).mpr (State.findName_mem hname), State.findName_name hname⟩
  · rintro ⟨hslot, rfl, rfl⟩
    exact findName_of_mem hnames (Table.mem_of_get hslot)

/-- `a`'s membership at pool index `i`, if it is `a`'s. -/
def State.ownMember (s : State) (a : AgentId) (i : Nat) : Option (Nat × Membership) :=
  match s.member i with
  | some m => if m.agent = a then some (i, m) else none
  | none => none

theorem State.memberOf_eq_findSome? (s : State) (a : AgentId) (refs : List Nat) :
    s.memberOf a refs = refs.findSome? (s.ownMember a) := rfl

theorem State.ownMember_eq_some_iff {s : State} {a : AgentId} {i j : Nat} {m : Membership} :
    s.ownMember a j = some (i, m) ↔ j = i ∧ s.member i = some m ∧ m.agent = a := by
  simp only [State.ownMember]
  split
  · next x hx =>
    split
    · next hagent =>
      constructor
      · intro h; cases h; exact ⟨rfl, hx, hagent⟩
      · rintro ⟨rfl, hm, -⟩
        rw [hx] at hm
        cases hm
        rfl
    · next hagent =>
      constructor
      · intro h; cases h
      · rintro ⟨rfl, hm, hagent'⟩
        rw [hx] at hm
        cases hm
        exact absurd hagent' hagent
  · next hx =>
    constructor
    · intro h; cases h
    · rintro ⟨rfl, hm, -⟩
      rw [hx] at hm
      cases hm

theorem State.ownMember_eq_none_iff {s : State} {a : AgentId} {j : Nat} :
    s.ownMember a j = none ↔ ∀ x, s.member j = some x → x.agent ≠ a := by
  simp only [State.ownMember]
  split
  · next x hx => simp [hx]
  · next hx => simp [hx]

theorem State.memberOf_eq_some_iff {s : State} {a : AgentId} {refs : List Nat} {i : Nat} {m : Membership} :
    s.memberOf a refs = some (i, m) ↔
      s.member i = some m ∧ m.agent = a ∧
        ∃ before after, refs = before ++ i :: after ∧ ∀ j ∈ before, ∀ x, s.member j = some x → x.agent ≠ a := by
  rw [State.memberOf_eq_findSome?, List.findSome?_eq_some_iff]
  simp only [State.ownMember_eq_some_iff, State.ownMember_eq_none_iff]
  constructor
  · rintro ⟨before, j, after, rfl, ⟨rfl, hm, hagent⟩, hbefore⟩
    exact ⟨hm, hagent, before, after, rfl, hbefore⟩
  · rintro ⟨hm, hagent, before, after, rfl, hbefore⟩
    exact ⟨before, i, after, rfl, ⟨rfl, hm, hagent⟩, hbefore⟩

theorem State.memberOf_eq_none_iff {s : State} {a : AgentId} {refs : List Nat} :
    s.memberOf a refs = none ↔ ∀ j ∈ refs, ∀ x, s.member j = some x → x.agent ≠ a := by
  rw [State.memberOf_eq_findSome?, List.findSome?_eq_none_iff]
  simp only [State.ownMember_eq_none_iff]

/-! ### The requests that concern a record (R12) -/

/-- A request that concerns a LIVE record reads it before its operation. -/
theorem directoryOp_of_concerned {u : State} {a : AgentId} {q : Request} {h : Nat} {r : Record}
    (hconcerned : concerned u q = some (h, r)) :
    isDirectoryKind q.body.kind = true ∧ ∃ op, directoryOp a q.body.kind q u = State.onRecord h r op u := by
  have hhandle (k : Nat) (hk : (u.record k).map (fun r => (k, r)) = some (h, r)) :
      k = h ∧ u.slot h = some (.live r) := by
    obtain ⟨x, hx, hpair⟩ := Option.map_eq_some_iff.mp hk
    obtain ⟨rfl, rfl⟩ := Prod.mk.inj hpair
    exact ⟨rfl, State.slot_of_record hx⟩
  cases hq : q.body <;> simp only [concerned, hq, reduceCtorEq] at hconcerned
  case acquire ns mode tryNow prompt notice deadline key =>
    exact ⟨rfl, _, by simp only [directoryOp, RequestBody.kind, acquireOp, hq, hconcerned]; rfl⟩
  case lookup ns key =>
    exact ⟨rfl, _, by simp only [directoryOp, RequestBody.kind, lookupOp, hq, hconcerned]; rfl⟩
  case release k token =>
    obtain ⟨hk, hslot⟩ := hhandle _ hconcerned
    exact ⟨rfl, _, by simp only [directoryOp, RequestBody.kind, releaseOp, hq, State.onHold, hk, hslot]; rfl⟩
  case downgrade k token =>
    obtain ⟨hk, hslot⟩ := hhandle _ hconcerned
    exact ⟨rfl, _, by simp only [directoryOp, RequestBody.kind, downgradeOp, hq, State.onHold, hk, hslot]; rfl⟩
  case upgrade k token prompt deadline =>
    obtain ⟨hk, hslot⟩ := hhandle _ hconcerned
    exact ⟨rfl, _, by simp only [directoryOp, RequestBody.kind, upgradeOp, hq, State.onHold, hk, hslot]; rfl⟩
  case cancel k =>
    obtain ⟨hk, hslot⟩ := hhandle _ hconcerned
    exact ⟨rfl, _, by simp only [directoryOp, RequestBody.kind, cancelOp, hq, hk, hslot]; rfl⟩

/-- Settles O23: the reads, the key match and the lists by their characterizations; every request that concerns a LIVE record
is `State.onRecord` at that record. -/
theorem checkFailureQuarantinesOrHalts : Obligations.CheckFailureQuarantinesOrHalts := by
  refine ⟨?_, fun s r => ⟨State.verify_sound_iff, State.verify_recordFault_iff, State.verify_memberFault_iff⟩,
    fun s ns key h r hcanonical hnames => State.findName_iff hcanonical hnames,
    fun s a refs => ⟨fun i m => State.memberOf_eq_some_iff, State.memberOf_eq_none_iff⟩, ?_⟩
  · rintro s t rest rfl
    exact ⟨State.sufferUpset_of_nil, State.sufferUpset_of_none,
      fun h hu => ⟨State.sufferUpset_of_no_record hu, fun r => State.sufferUpset_of_slot hu⟩,
      fun i hu => ⟨State.sufferUpset_of_no_member hu, fun m => State.sufferUpset_of_entry hu⟩⟩
  · intro s a q rest h r u hserved hu hconcerned
    subst hu
    obtain ⟨hkind, op, hop⟩ := directoryOp_of_concerned (a := a) hconcerned
    refine ⟨fun hfault => ?_, fun hok hfault => ?_⟩
    · exact exec_takes_of_served hserved hkind
        (hop.trans (State.onRecord_of_recordFault (State.verify_recordFault_iff.mpr hfault)))
    · exact exec_takes_of_served hserved hkind
        (hop.trans (State.onRecord_of_memberFault (State.verify_memberFault_iff.mpr ⟨hok, hfault⟩)))

/-! ### LOOKUP and LIST (R54, R59 to R61) -/

theorem insertByStamp_perm (e : Nat × Membership) (l : List (Nat × Membership)) : (insertByStamp e l).Perm (e :: l) := by
  induction l with
  | nil => exact .refl _
  | cons x l ih =>
    simp only [insertByStamp]
    split
    · exact (List.Perm.cons x ih).trans (List.Perm.swap e x l)
    · exact .refl _

theorem insertByStamp_pairwise (e : Nat × Membership) {l : List (Nat × Membership)}
    (hl : l.Pairwise (fun x y => x.2.stamp ≤ y.2.stamp)) :
    (insertByStamp e l).Pairwise (fun x y => x.2.stamp ≤ y.2.stamp) := by
  induction l with
  | nil => exact List.pairwise_singleton _ _
  | cons x l ih =>
    obtain ⟨hx, hl⟩ := List.pairwise_cons.mp hl
    simp only [insertByStamp]
    split
    · next hle =>
      refine List.pairwise_cons.mpr ⟨fun y hy => ?_, ih hl⟩
      rcases List.mem_cons.mp ((insertByStamp_perm e l).mem_iff.mp hy) with rfl | hy
      · exact hle
      · exact hx y hy
    · next hlt =>
      have hlt' := BitVec.not_le.mp hlt
      refine List.pairwise_cons.mpr ⟨fun y hy => ?_, List.pairwise_cons.mpr ⟨hx, hl⟩⟩
      rcases List.mem_cons.mp hy with rfl | hy
      · exact BitVec.le_of_lt hlt'
      · exact BitVec.le_trans (BitVec.le_of_lt hlt') (hx y hy)

theorem foldr_insertByStamp (l : List (Nat × Membership)) :
    (l.foldr insertByStamp []).Perm l ∧
      (l.foldr insertByStamp []).Pairwise (fun x y => x.2.stamp ≤ y.2.stamp) := by
  induction l with
  | nil => exact ⟨.refl _, List.Pairwise.nil⟩
  | cons e l ih => exact ⟨(insertByStamp_perm e _).trans (ih.1.cons e), insertByStamp_pairwise e ih.2⟩

theorem State.holdings_pairwise (s : State) (a : AgentId) :
    (s.holdings a).Pairwise (fun x y => x.2.stamp ≤ y.2.stamp) := (foldr_insertByStamp _).2

theorem State.mem_holdings_iff (s : State) (a : AgentId) (e : Nat × Membership) :
    e ∈ s.holdings a ↔ e ∈ s.dir.pool ∧ e.2.agent = a := by
  rw [State.holdings, (foldr_insertByStamp _).1.mem_iff, List.mem_filter, decide_eq_true_iff]

section
variable {s : State}

/-- The membership and its LIVE slot pass their checks. -/
def SoundEntry (s : State) (e : Nat × Membership) : Prop :=
  e.2.checkOk = true ∧ ∀ r, s.slot e.2.handle = some (.live r) → r.checkOk = true

theorem listedOf_of_live {m : Membership} {r : Record} (hslot : s.slot m.handle = some (.live r)) :
    listedOf s m = listedEntry m r.ns r.key false := by
  simp only [listedOf, hslot, listedEntry]

theorem listedOf_of_quarantined {m : Membership} {c : Bool} {r : Record}
    (hslot : s.slot m.handle = some (.quarantined c r)) : listedOf s m = listedEntry m 0 0 true := by
  simp only [listedOf, hslot, listedEntry]

theorem listedOf_of_free {m : Membership} (hslot : s.slot m.handle = none) :
    listedOf s m = listedEntry m 0 0 false := by
  simp only [listedOf, hslot, listedEntry]

/-- Sound entries are listed, and the reads go on behind them. -/
theorem listEntries_append_of_sound {before : List (Nat × Membership)} (hsound : ∀ e ∈ before, SoundEntry s e)
    (l : List (Nat × Membership)) (entries : List ListedEntry) :
    listEntries s (before ++ l) entries = listEntries s l (entries ++ before.map (fun e => listedOf s e.2)) := by
  induction before generalizing entries with
  | nil => rw [List.nil_append, List.map_nil, List.append_nil]
  | cons e before ih =>
    obtain ⟨⟨hmember, hslot⟩, hrest⟩ := List.forall_mem_cons.mp hsound
    have hgo := fun entries => ih hrest entries
    rw [List.cons_append, listEntries, if_pos hmember, List.map_cons]
    split
    · next r hr =>
      rw [if_pos (hslot r hr), hgo, ← listedOf_of_live hr, List.append_assoc, List.singleton_append]
    · next c r hr => rw [hgo, ← listedOf_of_quarantined hr, List.append_assoc, List.singleton_append]
    · next hr => rw [hgo, ← listedOf_of_free hr, List.append_assoc, List.singleton_append]

theorem listEntries_of_sound {l : List (Nat × Membership)} (hsound : ∀ e ∈ l, SoundEntry s e) :
    listEntries s l [] = .inr (l.map (fun e => listedOf s e.2)) := by
  have h := listEntries_append_of_sound hsound [] []
  rwa [List.append_nil, List.nil_append] at h

variable {before behind : List (Nat × Membership)} {i : Nat} {m : Membership}

theorem listEntries_of_memberFault (hsound : ∀ e ∈ before, SoundEntry s e) (hfault : m.checkOk = false) :
    listEntries s (before ++ (i, m) :: behind) [] = .inl (halted .membershipFault s, .halted) := by
  rw [listEntries_append_of_sound hsound, listEntries, if_neg (by simp [hfault]), State.memberFault_eq_halted]

theorem listEntries_of_recordFault {r : Record} (hsound : ∀ e ∈ before, SoundEntry s e) (hok : m.checkOk = true)
    (hslot : s.slot m.handle = some (.live r)) (hfault : r.checkOk = false) :
    listEntries s (before ++ (i, m) :: behind) [] = .inl (quarantined m.handle r s, .recordFault m.handle) := by
  rw [listEntries_append_of_sound hsound, listEntries, if_pos hok, hslot]
  simp only [hfault, Bool.false_eq_true, if_false, State.quarantine_eq_quarantined]

variable {a : AgentId} {q : Request} {after : Stamp} {failed : State × Result} {entries : List ListedEntry}

theorem listOp_of_failed (hbody : q.body = .list after)
    (hread : listEntries s (((s.holdings a).filter (fun e => decide (after < e.2.stamp))).take 16) [] = .inl failed) :
    listOp a q s = failed := by
  simp only [listOp, hbody, Config.listedSize, hread]

theorem listOp_of_listed (hbody : q.body = .list after)
    (hread : listEntries s (((s.holdings a).filter (fun e => decide (after < e.2.stamp))).take 16) [] = .inr entries) :
    listOp a q s =
      (s, .listed entries
        (decide (16 < ((s.holdings a).filter (fun e => decide (after < e.2.stamp))).length))) := by
  simp only [listOp, hbody, Config.listedSize, hread] <;> rfl

/-- The turn of a LIST. -/
theorem exec_list_of_served {rest : List Request} {x : Result} {t : State} (hserved : Served s a q rest)
    (hbody : q.body = .list after) (hop : listOp a q (Expect.taken s a q rest) = (t, x)) :
    exec (.list a) s = .next (executed a q x t) := by
  have hserve := exec_takes_of_served (t := t) (r := x) hserved (by rw [hbody]; rfl) (by rw [hbody]; exact hop)
  rwa [hbody] at hserve

/-- The turn of a LOOKUP. -/
theorem exec_lookup_of_served {rest : List Request} {ns : Byte} {key : Key} {x : Result} {t : State}
    (hserved : Served s a q rest) (hbody : q.body = .lookup ns key)
    (hop : lookupOp q (Expect.taken s a q rest) = (t, x)) : exec (.lookup a) s = .next (executed a q x t) := by
  have hserve := exec_takes_of_served (t := t) (r := x) hserved (by rw [hbody]; rfl) (by rw [hbody]; exact hop)
  rwa [hbody] at hserve

theorem foundResult_eq (s : State) (h : Nat) (r : Record) :
    foundResult h r s =
      (s, .found h r.mode (r.holders.filterMap (fun i => (s.member i).map (fun m => (m.agent, m.token))))
        (r.waiters.filterMap (fun i => (s.member i).map (fun m => (m.agent, m.mode))))
        (r.upgrade.bind (fun i => (s.member i).map Membership.agent))) := by
  have hholder (i : Nat) : s.foundHolder i = (s.member i).map (fun m => (m.agent, m.token)) := by
    simp only [State.foundHolder]
    cases s.member i <;> rfl
  have hwaiter (i : Nat) : s.foundWaiter i = (s.member i).map (fun m => (m.agent, m.mode)) := by
    simp only [State.foundWaiter]
    cases s.member i <;> rfl
  have hupgrade : s.upgradeAgent r = r.upgrade.bind (fun i => (s.member i).map Membership.agent) := by
    simp only [State.upgradeAgent]
    cases r.upgrade with
    | none => rfl
    | some i =>
      simp only [Option.bind_some]
      cases s.member i <;> rfl
  simp only [foundResult, hupgrade, ← hholder, ← hwaiter]

end

/-- Settles O21: LOOKUP by the key match and sound reads, LIST by the reads of the selected memberships; both leave the state
after the take. -/
theorem queriesReportAndChangeNothing : Obligations.QueriesReportAndChangeNothing := by
  intro s a q rest u hserved hu
  subst hu
  refine ⟨fun ns key hbody => ⟨fun hname => ?_, fun h r hname hsound => ?_⟩, fun after later hbody hlater hsound => ?_,
    State.holdings_pairwise _ a, State.mem_holdings_iff _ a⟩
  · exact exec_lookup_of_served hserved hbody (by simp only [lookupOp, hbody, hname])
  · refine exec_lookup_of_served hserved hbody ?_
    simp only [lookupOp, hbody, hname, State.onRecord, hsound]
    exact foundResult_eq _ h r
  · subst hlater
    exact exec_list_of_served hserved hbody (listOp_of_listed hbody (listEntries_of_sound hsound))

/-- Settles O22: the reads stop at the first entry behind sound ones that fails. -/
theorem listStopsAtTheFirstFailedRead : Obligations.ListStopsAtTheFirstFailedRead := by
  intro s a q rest after u before behind i m hserved hu hbody hlist hsound
  subst hu
  refine ⟨fun hfault => ?_, fun r hok hslot hfault => ?_⟩
  · refine exec_list_of_served hserved hbody (listOp_of_failed hbody ?_)
    rw [hlist]
    exact listEntries_of_memberFault hsound hfault
  · refine exec_list_of_served hserved hbody (listOp_of_failed hbody ?_)
    rw [hlist]
    exact listEntries_of_recordFault hsound hok hslot hfault

/-! ### The expire-wait (R70 to R73) -/

section
variable {s : State} {e : Deadline} {m : Membership} {r : Record}

theorem State.turn_of_turn {r : Requester} (hreset : s.resetN = true) (hnext : s.nextTurn = some r) (op : State → State) :
    s.turn r op = ended (op (begun r s)) := by
  have hmine : s.turnOf r = true := State.turnOf_iff.mpr ⟨hreset, hnext⟩
  simp only [State.turn, hmine, if_true, State.beginOperation_eq_begun, State.endOperation_eq_ended]

theorem exec_expireWait_of_turn {rest : List Deadline} (hturn : ExpiryTurn s e rest) :
    exec .expireWait s =
      .next (ended (State.expireWait e { begun .expiry s with deadlines := { s.deadlines with expiry := rest } })) := by
  obtain ⟨hreset, hnext, hqueue⟩ := hturn
  change Host.Outcome.next (s.turn .expiry expireOp) = _
  rw [State.turn_of_turn hreset hnext]
  simp only [expireOp, State.begun_deadlines, hqueue]

theorem State.isQuarantined_iff (s : State) (h : Nat) :
    s.isQuarantined h = true ↔ ∃ c r, s.slot h = some (.quarantined c r) := by
  simp only [State.isQuarantined]
  split
  · next c r hslot => exact ⟨fun _ => ⟨c, r, hslot⟩, fun _ => rfl⟩
  · next hslot =>
    constructor
    · intro h; cases h
    · rintro ⟨c, r, h⟩
      exact absurd h (hslot c r)

theorem State.staleExpiry_iff : s.staleExpiry e m = true ↔ Stale s e m := by
  simp only [State.staleExpiry, Stale, Bool.or_eq_true, decide_eq_true_iff, Bool.and_eq_true, Bool.not_eq_true',
    State.isQuarantined_iff, or_assoc]

/-- An expire-wait whose membership passes its check reads the record of its LIVE slot. -/
theorem State.expireWait_of_sound (hm : s.member e.index = some m) (hok : m.checkOk = true) (hfresh : ¬ Stale s e m)
    (hslot : s.slot m.handle = some (.live r)) (hv : s.verify r = .sound) : s.expireWait e = s.expire e m := by
  simp only [State.expireWait, hm, hok, if_true, if_neg (mt State.staleExpiry_iff.mp hfresh), State.record_of_slot hslot,
    hv]

theorem State.expireWait_of_recordFault (hm : s.member e.index = some m) (hok : m.checkOk = true)
    (hfresh : ¬ Stale s e m) (hslot : s.slot m.handle = some (.live r)) (hv : s.verify r = .recordFault) :
    s.expireWait e = quarantined m.handle r s := by
  simp only [State.expireWait, hm, hok, if_true, if_neg (mt State.staleExpiry_iff.mp hfresh), State.record_of_slot hslot,
    hv, State.quarantine_eq_quarantined]

theorem State.expireWait_of_memberFault (hm : s.member e.index = some m) (hok : m.checkOk = true)
    (hfresh : ¬ Stale s e m) (hslot : s.slot m.handle = some (.live r)) (hv : s.verify r = .memberFault) :
    s.expireWait e = halted .membershipFault s := by
  simp only [State.expireWait, hm, hok, if_true, if_neg (mt State.staleExpiry_iff.mp hfresh), State.record_of_slot hslot,
    hv, State.memberFault_eq_halted]

end

/-- Settles O26: one branch of `State.expireWait` for each clause. -/
theorem expireWaitEndsOnlyTheSameWait : Obligations.ExpireWaitEndsOnlyTheSameWait := by
  intro s e rest u hturn hu
  rw [exec_expireWait_of_turn hturn, ← hu]
  clear hturn hu
  refine ⟨fun hm => ?_, fun m hm => ⟨fun hfault => ?_, fun hok hstale => ?_, fun r hok hfresh hslot => ?_⟩⟩
  · simp only [State.expireWait, hm]
  · simp only [State.expireWait, hm, hfault, Bool.false_eq_true, if_false, State.memberFault_eq_halted]
  · simp only [State.expireWait, hm, hok, if_true, if_pos (State.staleExpiry_iff.mpr hstale)]
  · refine ⟨fun hv => ?_, fun hv => ?_, fun hv hkind => ?_, fun hv hkind => ?_⟩
    · rw [State.expireWait_of_recordFault hm hok hfresh hslot hv]
    · rw [State.expireWait_of_memberFault hm hok hfresh hslot hv]
    · rw [State.expireWait_of_sound hm hok hfresh hslot hv]
      simp only [State.expire, hkind, State.count_eq_counted]
    · rw [State.expireWait_of_sound hm hok hfresh hslot hv]
      simp only [State.expire, hkind, State.count_eq_counted]

end Sys2Proof.Machine
end

section
/-! SUPPORT. The turn of a session request, the moves of a session as explicit updates, and the statements on sessions,
timers and notifications (R77 to R94, R113 to R128). -/

namespace Sys2Proof.Machine

open Sys2Proof.Expect

/-! ### The turn of a session request (R78) -/

/-- The operation of each session request. -/
def sessionOp (a : AgentId) : ReqKind → Request → State → State × Reply
  | .openSession => openOp a
  | .resume => resumeOp a
  | .close => closeOp a
  | .flush => flushOp a
  | .acquire | .release | .downgrade | .upgrade | .cancel | .lookup | .list => fun _ s => (s, .none)

section
variable {s t : State} {a : AgentId} {q : Request} {rest : List Request} {r : Result}

theorem exec_takes_session {k : ReqKind} (hkind : isDirectoryKind k = false) (a : AgentId) (s : State) :
    exec (takes k a) s = .next (s.agentTurn a k (sessionOp a k)) := by
  cases k <;> simp only [isDirectoryKind, Bool.true_eq_false] at hkind <;> rfl

/-- A session request ends with the reply that its operation gives on the state after the take. -/
theorem exec_takes_of_reply {reply : Reply} (hturn : AgentTurn s a q rest) (hkind : isDirectoryKind q.body.kind = false)
    (hop : sessionOp a q.body.kind q (Expect.taken s a q rest) = (t, reply)) :
    exec (takes q.body.kind a) s = .next (t.finish a q reply) := by
  rw [exec_takes_session hkind]
  simp only [State.agentTurn, State.taken_of_agentTurn hturn, State.take_eq_taken, hop]

theorem exec_takes_of_executed (hturn : AgentTurn s a q rest) (hkind : isDirectoryKind q.body.kind = false)
    (hop : sessionOp a q.body.kind q (Expect.taken s a q rest) = (t, .executed r)) :
    exec (takes q.body.kind a) s = .next (executed a q r t) := by
  rw [exec_takes_of_reply hturn hkind hop, State.finish_executed]

theorem exec_takes_of_session_refused (hturn : AgentTurn s a q rest) (hkind : isDirectoryKind q.body.kind = false)
    (hop : sessionOp a q.body.kind q (Expect.taken s a q rest) = (t, .refused r)) :
    exec (takes q.body.kind a) s = .next (refused a q r t) := by
  rw [exec_takes_of_reply hturn hkind hop, State.finish_refused]

end

/-! ### OPEN (R77, R79, R80, R125) -/

theorem nextEpoch_eq (e : Epoch) : nextEpoch e = if e = 65535 then 1 else e + 1 := rfl

theorem State.openSessionOf_eq_opened (s : State) (a : AgentId) : s.openSessionOf a = opened a s := rfl

/-- Settles O27: `openOp` by the session's state and, in CLOSED, the directory's. -/
theorem openOpensAClosedSession : Obligations.OpenOpensAClosedSession := by
  intro s a q rest u hturn hbody hu
  subst hu
  have hkind : q.body.kind = .openSession := by rw [hbody]; rfl
  have hexecuted {t : State} {r : Result} (hop : openOp a q (Expect.taken s a q rest) = (t, .executed r)) :
      exec (.openSession a) s = .next (executed a q r t) := by
    have hrun := exec_takes_of_executed (t := t) (r := r) hturn (by rw [hkind]; rfl) (by rw [hkind]; exact hop)
    rwa [hkind] at hrun
  have hrefused {t : State} {r : Result} (hop : openOp a q (Expect.taken s a q rest) = (t, .refused r)) :
      exec (.openSession a) s = .next (refused a q r t) := by
    have hrun := exec_takes_of_session_refused (t := t) (r := r) hturn (by rw [hkind]; rfl) (by rw [hkind]; exact hop)
    rwa [hkind] at hrun
  refine ⟨fun hstate hdir => hexecuted ?_, fun hstate hdir => hrefused ?_, fun hstate hdir => hrefused ?_,
    fun hstate => hexecuted ?_, fun hstate => hrefused ?_⟩
  · simp only [openOp, taken_session, hstate, taken_dir_state, hdir, State.openSessionOf_eq_opened, nextEpoch_eq]
  · simp only [openOp, taken_session, hstate, taken_dir_state, hdir]
  · simp only [openOp, taken_session, hstate, taken_dir_state, hdir]
  · rcases hstate with hstate | hstate <;> simp only [openOp, taken_session, hstate]
  · simp only [openOp, taken_session, hstate]

/-! ### RESUME, CLOSE and FLUSH (R78, R81, R90, R119) -/

section
variable {s : State} {a : AgentId} {q : Request}

/-- The answer to RESUME, CLOSE and FLUSH in CLOSED. -/
def closedAnswer (k : ReqKind) : Result := if k = .resume then .sessionLost else .noSession

/-- Their answer in RETIRING. -/
def retiringAnswer (k : ReqKind) : Result := if k = .resume then .sessionLost else .teardownInProgress

variable {k : ReqKind} (hkind : k = .resume ∨ k = .close ∨ k = .flush)

include hkind

theorem sessionOp_of_closed (hstate : (s.session a).state = .closed) :
    sessionOp a k q s = (s, .refused (closedAnswer k)) := by
  rcases hkind with rfl | rfl | rfl <;>
    simp only [sessionOp, resumeOp, closeOp, flushOp, hstate, closedAnswer, if_true, reduceCtorEq, if_false]

theorem sessionOp_of_stale (hstate : (s.session a).state ≠ .closed) (hstale : q.epoch ≠ (s.session a).epoch) :
    sessionOp a k q s = (s, .refused .staleSession) := by
  rcases hkind with rfl | rfl | rfl <;> simp only [sessionOp, resumeOp, closeOp, flushOp, if_pos hstale] <;>
    cases h : (s.session a).state <;> first | exact absurd h hstate | rfl

theorem sessionOp_of_retiring (hstate : (s.session a).state = .retiring) (hcurrent : q.epoch = (s.session a).epoch) :
    sessionOp a k q s = (s, .refused (retiringAnswer k)) := by
  rcases hkind with rfl | rfl | rfl <;>
    simp only [sessionOp, resumeOp, closeOp, flushOp, hstate, retiringAnswer, hcurrent, ne_eq, not_true_eq_false, if_true,
      reduceCtorEq, if_false]

end

/-- Settles O28: the three operations refuse alike, by the session's state and the epoch. -/
theorem sessionRequestIsRefusedAtTake : Obligations.SessionRequestIsRefusedAtTake := by
  intro s a q rest u hturn hbody hu
  subst hu
  have hkinds : q.body.kind = .resume ∨ q.body.kind = .close ∨ q.body.kind = .flush := by
    rcases hbody with h | h | h <;> rw [h]
    · exact .inl rfl
    · exact .inr (.inl rfl)
    · exact .inr (.inr rfl)
  have hsession : isDirectoryKind q.body.kind = false := by
    rcases hkinds with h | h | h <;> rw [h] <;> rfl
  have hresume : q.body = .resume ↔ q.body.kind = .resume := by
    rcases hbody with h | h | h <;> simp [h, RequestBody.kind]
  refine ⟨fun hstate => ?_, fun hstate hstale => ?_, fun hstate hcurrent => ?_⟩
  · simp only [hresume]
    exact exec_takes_of_session_refused hturn hsession
      (sessionOp_of_closed hkinds (by rwa [taken_session]))
  · exact exec_takes_of_session_refused hturn hsession
      (sessionOp_of_stale hkinds (by rwa [taken_session]) (by rwa [taken_session]))
  · simp only [hresume]
    exact exec_takes_of_session_refused hturn hsession
      (sessionOp_of_retiring hkinds (by rwa [taken_session]) (by rwa [taken_session]))

/-! ### The moves of a session in the words of the statements (R83, R86, R89, R92) -/

section
variable (s : State) (a : AgentId)

theorem State.putSession_graced : s.putSession a { s.session a with graceDue := s.graceStart } = graced a s := rfl

theorem State.enterSuspect_of_active {cause : SuspectCause} (hactive : (s.session a).state = .active) :
    s.enterSuspect a cause = suspected a cause s := by
  simp only [State.enterSuspect, hactive, if_true]
  rfl

theorem State.enterSuspect_of_not_active {cause : SuspectCause} (hnot : (s.session a).state ≠ .active) :
    s.enterSuspect a cause = s := if_neg hnot

/-- The cache is emptied and the waiting digest withdrawn. -/
theorem State.enterRetiring_eq_retired {cause : RetireCause} (tag : Option Tag) (hcause : cause ≠ .lapsed) :
    s.enterRetiring a cause tag = retired a cause tag s := by
  cases cause with
  | lapsed => exact absurd rfl hcause
  | agentClose =>
    simp only [State.enterRetiring, State.retireModerator, State.putPort, State.putModerator, State.putSession,
      State.placeJob, State.port, State.session, State.moderator, Per.put_put, Per.get_put_self, retired]
  | evicted =>
    simp only [State.enterRetiring, State.retireModerator, State.putPort, State.putModerator, State.putSession,
      State.placeJob, State.port, State.session, State.moderator, Per.put_put, Per.get_put_self, retired]

theorem State.enterRetiring_lapsed (tag : Option Tag) :
    s.enterRetiring a .lapsed tag = flagged 2 (retired a .lapsed tag s) := by
  simp only [State.enterRetiring, State.retireModerator, State.putPort, State.putModerator, State.putSession,
    State.placeJob, State.port, State.session, State.moderator, Per.put_put, Per.get_put_self, retired]
  rfl

theorem State.resend_eq_resent (d : Digest) (n : Nat) : s.resend a d n = resent a d n s := rfl

end

/-! ### RESUME (R81, R127) -/

section
variable {s : State} {a : AgentId} {m : Moderator}

theorem State.resumeModerator_of_inFlight {d : Digest} (hflight : (s.moderator a).inFlight = some d) :
    s.resumeModerator a = resent a d 0 s := by
  simp only [State.resumeModerator, hflight, State.resend_eq_resent]

theorem State.resumeModerator_of_empty (hflight : (s.moderator a).inFlight = none) (hpending : (s.moderator a).pending = []) :
    s.resumeModerator a = wroteModerator a { s.moderator a with state := .empty, retransmitCount := 0 } s := by
  simp only [State.resumeModerator, hflight, hpending, List.isEmpty_nil, if_true, State.putModerator_eq_wroteModerator]

theorem State.resumeModerator_of_pending (hflight : (s.moderator a).inFlight = none)
    (hpending : (s.moderator a).pending ≠ []) :
    Checked a (collecting a (wroteModerator a { s.moderator a with retransmitCount := 0 } s)) (s.resumeModerator a) := by
  simp only [State.resumeModerator, hflight, List.isEmpty_iff, if_neg hpending]
  exact State.enterCollecting_checked a _

end

section
variable {u : State} {a : AgentId} {q : Request}

theorem resumeOp_of_active (hstate : (u.session a).state = .active) (hcurrent : q.epoch = (u.session a).epoch) :
    resumeOp a q u = (graced a u, .executed (.resumed q.epoch)) := by
  unfold resumeOp
  dsimp only
  split
  case h_2 =>
    rw [if_neg (not_not_intro hcurrent), hcurrent]
    rfl
  all_goals next h => simp [hstate] at h

theorem resumeOp_of_suspect (hstate : (u.session a).state = .suspect) (hcurrent : q.epoch = (u.session a).epoch) :
    resumeOp a q u =
      ((wroteSession a
          { u.session a with
            state := .active, lapseDue := none, suspectCause := none
            graceDue := some (due u.clock.ms u.mgmt.config.grace) } u).resumeModerator a,
        .executed (.resumed q.epoch)) := by
  unfold resumeOp
  dsimp only
  split
  case h_3 =>
    rw [if_neg (not_not_intro hcurrent), hcurrent]
    rfl
  all_goals next h => simp [hstate] at h

variable {s : State} {rest : List Request}

theorem begun_clock (r : Requester) (s : State) : (begun r s).clock = s.clock := (begun_edits s r).clock

@[simp] theorem taken_clock : (Expect.taken s a q rest).clock = s.clock := (taken_edits s a q rest).clock

@[simp] theorem taken_moderator (b : AgentId) : (Expect.taken s a q rest).moderator b = s.moderator b := by
  simp only [State.moderator, Expect.taken, begun]
  rw [State.sufferUpset_eq]

end

/-- Settles O29: `resumeOp` with the current epoch in ACTIVE and in SUSPECT, and the moderator's resumption by what it
holds. -/
theorem resumeReturnsTheSessionToActive : Obligations.ResumeReturnsTheSessionToActive := by
  intro s a q rest u hturn hbody hu hcurrent
  subst hu
  have hkind : q.body.kind = .resume := by rw [hbody]; rfl
  have hexecuted {t : State} (hop : resumeOp a q (Expect.taken s a q rest) = (t, .executed (.resumed q.epoch))) :
      exec (.resume a) s = .next (executed a q (.resumed q.epoch) t) := by
    have hrun := exec_takes_of_executed (t := t) hturn (by rw [hkind]; rfl) (by rw [hkind]; exact hop)
    rwa [hkind] at hrun
  refine ⟨fun hstate => hexecuted (resumeOp_of_active (by rwa [taken_session]) (by rwa [taken_session])),
    fun v m hstate hv hm => ?_⟩
  have hop : resumeOp a q (Expect.taken s a q rest) = (v.resumeModerator a, .executed (.resumed q.epoch)) := by
    rw [resumeOp_of_suspect (by rwa [taken_session]) (by rwa [taken_session]), taken_session, taken_clock,
      taken_mgmt_config, hv]
  have hmoderator : v.moderator a = m := by
    rw [hv, hm]
    exact taken_moderator (a := a) (q := q) (rest := rest) a
  subst hmoderator
  refine ⟨fun d hflight => ?_, fun hflight hpending => ⟨_, hexecuted hop, ?_⟩, fun hflight hpending => ?_⟩
  · rw [← State.resumeModerator_of_inFlight hflight]
    exact hexecuted hop
  · exact State.resumeModerator_of_pending hflight hpending
  · rw [← State.resumeModerator_of_empty hflight hpending]
    exact hexecuted hop

/-! ### The timers, the link events, CLOSE and EVICT_AGENT (R85 to R92, R94, R133, R134) -/

theorem timerReached_iff (now : Time) (d : Option Time) : timerReached now d = true ↔ ∃ x ∈ d, Reached now x := by
  cases d with
  | none => simp [timerReached]
  | some x => simp [timerReached, reached_iff]

section
variable {s : State} {a : AgentId}

theorem State.graceExpires_iff :
    s.graceExpires a = true ↔ (s.session a).state = .active ∧ ∃ d ∈ (s.session a).graceDue, Reached s.clock.ms d := by
  simp only [State.graceExpires, Bool.and_eq_true, decide_eq_true_iff, timerReached_iff]

theorem State.lapseExpires_iff :
    s.lapseExpires a = true ↔ (s.session a).state = .suspect ∧ ∃ d ∈ (s.session a).lapseDue, Reached s.clock.ms d := by
  simp only [State.lapseExpires, Bool.and_eq_true, decide_eq_true_iff, timerReached_iff]

theorem State.holdExpires_iff :
    s.holdExpires a = true ↔
      (s.moderator a).state = .collecting ∧ ∃ d ∈ (s.moderator a).holdDue, Reached s.clock.us d := by
  simp only [State.holdExpires, Bool.and_eq_true, decide_eq_true_iff, timerReached_iff]

theorem State.retransmitExpires_iff :
    s.retransmitExpires a = true ↔
      (s.moderator a).state = .outstanding ∧ ∃ d ∈ (s.moderator a).retransmitDue, Reached s.clock.ms d := by
  simp only [State.retransmitExpires, Bool.and_eq_true, decide_eq_true_iff, timerReached_iff]

theorem exec_graceTimerExpiry_of_due (hreset : s.resetN = true) (hdue : s.graceExpires a = true) :
    exec (.graceTimerExpiry a) s = .next (s.enterSuspect a .quiet) := by
  change Host.Outcome.next (if s.resetN && s.graceExpires a then s.enterSuspect a .quiet else s) = _
  rw [hreset, hdue]
  rfl

theorem exec_graceTimerExpiry_of_not_due (hnot : ¬ s.graceExpires a = true) :
    exec (.graceTimerExpiry a) s = .next s :=
  congrArg Host.Outcome.next (if_neg (by simp [hnot]))

theorem exec_lapseTimerExpiry_of_due (hreset : s.resetN = true) (hdue : s.lapseExpires a = true) :
    exec (.lapseTimerExpiry a) s = .next (s.enterRetiring a .lapsed none) := by
  change Host.Outcome.next (if s.resetN && s.lapseExpires a then s.enterRetiring a .lapsed none else s) = _
  rw [hreset, hdue]
  rfl

theorem exec_lapseTimerExpiry_of_not_due (hnot : ¬ s.lapseExpires a = true) :
    exec (.lapseTimerExpiry a) s = .next s :=
  congrArg Host.Outcome.next (if_neg (by simp [hnot]))

theorem exec_holdTimerExpiry_of_due (hreset : s.resetN = true) (hdue : s.holdExpires a = true) :
    exec (.holdTimerExpiry a) s = .next (s.emit a) := by
  change Host.Outcome.next (if s.resetN && s.holdExpires a then s.emit a else s) = _
  rw [hreset, hdue]
  rfl

theorem exec_holdTimerExpiry_of_not_due (hnot : ¬ s.holdExpires a = true) : exec (.holdTimerExpiry a) s = .next s :=
  congrArg Host.Outcome.next (if_neg (by simp [hnot]))

theorem exec_retransmitTimerExpiry_of_due (hreset : s.resetN = true) (hdue : s.retransmitExpires a = true) :
    exec (.retransmitTimerExpiry a) s = .next (s.retransmit a) := by
  change Host.Outcome.next (if s.resetN && s.retransmitExpires a then s.retransmit a else s) = _
  rw [hreset, hdue]
  rfl

theorem exec_retransmitTimerExpiry_of_not_due (hnot : ¬ s.retransmitExpires a = true) :
    exec (.retransmitTimerExpiry a) s = .next s :=
  congrArg Host.Outcome.next (if_neg (by simp [hnot]))

/-- CLOSE with the current epoch (R90). -/
theorem closeOp_of_open {q : Request} (hopen : (s.session a).state = .active ∨ (s.session a).state = .suspect)
    (hcurrent : q.epoch = (s.session a).epoch) :
    closeOp a q s = (retired a .agentClose (some q.tag) s, .none) := by
  have hretired := s.enterRetiring_eq_retired a (some q.tag) (cause := .agentClose) (by decide)
  rcases hopen with hstate | hstate <;>
    simp only [closeOp, hstate, hcurrent, ne_eq, not_true_eq_false, if_false, hretired]

/-- FLUSH with the current epoch (R119). -/
theorem flushOp_of_open {q : Request} (hopen : (s.session a).state = .active ∨ (s.session a).state = .suspect)
    (hcurrent : q.epoch = (s.session a).epoch) : flushOp a q s = (s.flushModerator a, .executed .flushed) := by
  rcases hopen with hstate | hstate <;> simp only [flushOp, hstate, hcurrent, ne_eq, not_true_eq_false, if_false]

/-! ### EVICT_AGENT (R91) -/

theorem exec_evictAgent_of_idle (upper : BitVec 24) (hreset : s.resetN = true) (hidle : s.mgmt.busy = none) :
    exec (.evictAgent upper) s = .next ((issued 0x03 s).evict s.mgmt.arg0) := by
  change execEvictAgent upper s = .next ((issued CommandName.evictAgent.code s).evict s.mgmt.arg0)
  simp [execEvictAgent, State.writeCommand, hreset, hidle, State.newResult_eq_issued]

variable {arg : Word}

theorem State.evict_of_bad_agent (hbad : 7 < arg.toNat) : s.evict arg = rejected .badAgent s := by
  rw [State.evict, dif_neg (by omega), State.endRefused_eq_rejected]

theorem State.evict_of_closed (harg : arg.toNat = a.val) (hstate : (s.session a).state = .closed) :
    s.evict arg = rejected .notOpen s := by
  have hsame : (⟨arg.toNat, harg ▸ a.isLt⟩ : AgentId) = a := Fin.ext harg
  simp only [State.evict, dif_pos (show arg.toNat < 8 from harg ▸ a.isLt), hsame, hstate, State.endRefused_eq_rejected]

theorem State.evict_of_retiring (harg : arg.toNat = a.val) (hstate : (s.session a).state = .retiring) :
    s.evict arg = rejected .alreadyRetiring s := by
  have hsame : (⟨arg.toNat, harg ▸ a.isLt⟩ : AgentId) = a := Fin.ext harg
  simp only [State.evict, dif_pos (show arg.toNat < 8 from harg ▸ a.isLt), hsame, hstate, State.endRefused_eq_rejected]

theorem State.evict_of_open (harg : arg.toNat = a.val)
    (hopen : (s.session a).state = .active ∨ (s.session a).state = .suspect) :
    s.evict arg = done 0 (retired a .evicted none s) := by
  have hsame : (⟨arg.toNat, harg ▸ a.isLt⟩ : AgentId) = a := Fin.ext harg
  have hretired := s.enterRetiring_eq_retired a none (cause := .evicted) (by decide)
  rcases hopen with hstate | hstate <;>
    simp only [State.evict, dif_pos (show arg.toNat < 8 from harg ▸ a.isLt), hsame, hstate, hretired,
      State.endDone_eq_done]

end

/-- Settles O30: the three entries into RETIRING, the lapse timer by its due time, and EVICT_AGENT by its argument and the
session's state. -/
theorem closeLapseAndEvictionRetireTheSession : Obligations.CloseLapseAndEvictionRetireTheSession := by
  refine ⟨fun s a q rest hturn hbody hcurrent hopen => ?_, fun s a d hreset hstate hrun hdue => ?_,
    fun s a hnot => ?_, fun s upper t hreset hidle ht => ?_⟩
  · have hkind : q.body.kind = .close := by rw [hbody]; rfl
    have hreply := exec_takes_of_reply (t := retired a .agentClose (some q.tag) (Expect.taken s a q rest))
      (reply := .none) hturn (by rw [hkind]; rfl)
      (by
        rw [hkind]
        exact closeOp_of_open (by rwa [taken_session]) (by rwa [taken_session]))
    rwa [hkind, State.finish_none] at hreply
  · rw [exec_lapseTimerExpiry_of_due hreset (State.lapseExpires_iff.mpr ⟨hstate, d, hrun, hdue⟩),
      State.enterRetiring_lapsed]
  · exact exec_lapseTimerExpiry_of_not_due (mt State.lapseExpires_iff.mp hnot)
  · rw [exec_evictAgent_of_idle upper hreset hidle, ← ht]
    have hsession (a : AgentId) : t.session a = s.session a := by rw [ht]; rfl
    refine ⟨fun hbad => ?_, fun a harg => ⟨fun hstate => ?_, fun hstate => ?_, fun hopen => ?_⟩⟩
    · rw [State.evict_of_bad_agent hbad]
    · rw [State.evict_of_closed harg (by rwa [hsession])]
    · rw [State.evict_of_retiring harg (by rwa [hsession])]
    · rw [State.evict_of_open harg (by rwa [hsession])]

/-- Settles O31: the grace timer by its due time, and the two link events. -/
theorem quietAndLinkLossSuspendTheSession : Obligations.QuietAndLinkLossSuspendTheSession := by
  intro s a hreset
  have hlinkDown : exec (.linkDown a) s = .next (s.linkDown a) := congrArg Host.Outcome.next (if_pos hreset)
  refine ⟨fun d hstate hrun hdue => ?_, fun hnot => ?_, fun t hup ht => ?_, fun hdown => ?_, ?_⟩
  · rw [exec_graceTimerExpiry_of_due hreset (State.graceExpires_iff.mpr ⟨hstate, d, hrun, hdue⟩),
      State.enterSuspect_of_active _ _ hstate]
  · exact exec_graceTimerExpiry_of_not_due (mt State.graceExpires_iff.mp hnot)
  · have hemptied : s.linkDown a = t.enterSuspect a .linkLost := by
      rw [ht]
      exact if_pos hup
    have hsession : t.session a = s.session a := by rw [ht]; rfl
    rw [hlinkDown, hemptied]
    exact ⟨fun hstate => by rw [State.enterSuspect_of_active _ _ (by rwa [hsession])],
      fun hstate => by rw [State.enterSuspect_of_not_active _ _ (by rwa [hsession])]⟩
  · rw [hlinkDown]
    exact congrArg Host.Outcome.next (if_neg (by simp [hdown]))
  · exact congrArg Host.Outcome.next (if_pos hreset)

/-! ### Notifications (R113, R114) -/

section
variable {s : State} {a : AgentId} {n : Notification} {m : Moderator}

theorem places_eq_occupied (m : Moderator) : places m = m.occupied := by
  simp only [places, Moderator.occupied, Moderator.inFlightCount]
  cases m.inFlight <;> rfl

theorem State.notify_of_closed (hclosed : (s.moderator a).accepting = false) : s.notify a n = s := by
  simp only [State.notify, hclosed, Bool.false_eq_true, if_false]

end

/-- Settles O34: `State.notify` by the room of the queue and the moderator's state; the loss of a notification makes the
emission condition true. -/
theorem notificationIsQueuedDroppedOrLost : Obligations.NotificationIsQueuedDroppedOrLost := by
  intro s a n m joined lost hm hjoined hlost
  subst hm hjoined hlost
  rw [places_eq_occupied]
  refine ⟨State.notify_of_closed, fun hopen hroom => ?_, fun hopen hfull => ?_⟩
  · have hroom' : (s.moderator a).occupied < Config.notificationSize := hroom
    refine ⟨fun hstate => ?_, fun hstate => ?_, fun hstate => ?_⟩
    · simp only [State.notify, hopen, if_true, hroom', hstate, State.putModerator_eq_wroteModerator]
      exact State.enterCollecting_checked a _
    · simp only [State.notify, hopen, if_true, hroom', hstate, State.putModerator_eq_wroteModerator]
      exact State.checkEmission_checked a _
    · rcases hstate with hstate | hstate <;>
        simp only [State.notify, hopen, if_true, hroom', hstate, State.putModerator_eq_wroteModerator]
  · have hfull' : ¬ (s.moderator a).occupied < Config.notificationSize := Nat.not_lt.mpr hfull
    refine ⟨fun hstate => ?_, fun hstate => ?_⟩
    · simp only [State.notify, hopen, if_true, hfull', if_false, hstate, State.putModerator_eq_wroteModerator]
      refine (State.checkEmission_checked a _).1 (.inr (.inr (.inl ?_)))
      simp [wroteModerator, State.moderator]
    · rcases hstate with hstate | hstate <;>
        simp only [State.notify, hopen, if_true, hfull', if_false, hstate, State.putModerator_eq_wroteModerator]

/-! ### The moderator's timers and FLUSH (R117, R119, R123, R124) -/

section
variable {s : State} {a : AgentId} {g : Digest}

theorem State.retransmit_of_room (hflight : (s.moderator a).inFlight = some g)
    (hroom : (s.moderator a).retransmitCount < s.mgmt.config.retransmitLimit.toNat) :
    s.retransmit a = resent a g ((s.moderator a).retransmitCount + 1) s := by
  simp only [State.retransmit, hflight, if_pos hroom, State.resend_eq_resent]

theorem State.retransmit_of_limit (hflight : (s.moderator a).inFlight = some g)
    (hlimit : s.mgmt.config.retransmitLimit.toNat ≤ (s.moderator a).retransmitCount) :
    s.retransmit a = s.exhaustRetries a := by
  simp only [State.retransmit, hflight, if_neg (Nat.not_lt.mpr hlimit)]

theorem State.flushModerator_of_collecting (hstate : (s.moderator a).state = .collecting) :
    s.flushModerator a = emitted a s := by
  simp only [State.flushModerator, hstate, State.emit_eq_emitted]

theorem State.flushModerator_of_not_collecting (hstate : (s.moderator a).state ≠ .collecting) :
    s.flushModerator a = s := by
  unfold State.flushModerator
  split
  · next h => exact absurd h hstate
  all_goals rfl

end

/-- Settles O35: the two timers by their due times, the retransmit timer by the limit, and FLUSH by the moderator's state. -/
theorem moderatorTimersAndFlushSendDigests : Obligations.ModeratorTimersAndFlushSendDigests := by
  refine ⟨fun s a d hreset hstate hrun hdue => ?_, fun s a => ⟨fun hnot => ?_, fun hnot => ?_⟩,
    fun s a d g hreset hstate hrun hdue hflight => ?_, fun s a q rest hturn hbody hcurrent hopen => ?_⟩
  · rw [exec_holdTimerExpiry_of_due hreset (State.holdExpires_iff.mpr ⟨hstate, d, hrun, hdue⟩), State.emit_eq_emitted]
  · exact exec_holdTimerExpiry_of_not_due (mt State.holdExpires_iff.mp hnot)
  · exact exec_retransmitTimerExpiry_of_not_due (mt State.retransmitExpires_iff.mp hnot)
  · rw [exec_retransmitTimerExpiry_of_due hreset (State.retransmitExpires_iff.mpr ⟨hstate, d, hrun, hdue⟩)]
    refine ⟨fun hroom => ?_, fun hlimit => ?_⟩
    · rw [State.retransmit_of_room hflight hroom]
    · rw [State.retransmit_of_limit hflight hlimit]
      refine ⟨fun hactive => ?_, fun hnot => ?_⟩
      · rw [State.exhaustRetries_of_active hactive, State.enterSuspect_of_active _ _ hactive]
      · rw [State.exhaustRetries, State.enterSuspect_of_not_active _ _ (by rwa [State.putModerator_session]),
          State.putModerator_eq_wroteModerator]
  · have hkind : q.body.kind = .flush := by rw [hbody]; rfl
    have hexecuted := exec_takes_of_executed (t := (Expect.taken s a q rest).flushModerator a) (r := .flushed) hturn
      (by rw [hkind]; rfl)
      (by
        rw [hkind]
        exact flushOp_of_open (by rwa [taken_session]) (by rwa [taken_session]))
    rw [hkind] at hexecuted
    refine ⟨fun hstate => ?_, fun hstate => ?_⟩
    · rw [← State.flushModerator_of_collecting (by rwa [taken_moderator])]
      exact hexecuted
    · rwa [State.flushModerator_of_not_collecting (by rwa [taken_moderator])] at hexecuted

end Sys2Proof.Machine
end

section
/-! SUPPORT. The grant pass as the run through the waiter queue, and the statements on it (R8, R44 to R50). -/

namespace Sys2Proof.Machine

open Sys2Proof.Expect

/-! ### Records and members through the notices (R47) -/

section
variable {s : State} {h i j : Nat} {r : Record} {m : Membership}

@[simp] theorem State.contend_record (s : State) (h i k : Nat) (wanted : Mode) :
    (s.contend h wanted i).record k = s.record k := by
  simp only [State.contend]
  repeat' split
  · rfl
  · rw [State.notify_record, State.putMember_record]
  · rfl

@[simp] theorem State.contentionCheck_record (s : State) (h i k : Nat) :
    (s.contentionCheck h i).record k = s.record k := by
  simp only [State.contentionCheck]
  repeat' split
  · rfl
  · rfl
  · rfl
  · rw [State.contend_record]

@[simp] theorem State.contentionChecks_record (l : List Nat) (s : State) (h k : Nat) :
    (l.foldl (fun s i => s.contentionCheck h i) s).record k = s.record k := by
  induction l generalizing s with
  | nil => rfl
  | cons j l ih => rw [List.foldl_cons, ih, State.contentionCheck_record]

/-! ### The pending upgrade (R45) -/

/-- The grant of a pending upgrade in one update, its notice and its contention check. -/
theorem State.grantUpgrade_eq (hr : s.record h = some r) (hm : s.member i = some m) :
    s.grantUpgrade h i =
      (counted (.agent m.agent .grants)
        ((tokenTaken
          (wroteCounts m.agent { s.counts m.agent with upgrades := (s.counts m.agent).upgrades - 1 }
            (wrote h { r with upgrade := none, mode := .exclusive }
              (wroteMember i
                { m with
                  upgradePending := false, deadline := none, mode := .exclusive, token := s.dir.nextToken
                  noticed := false }
                (undue i m s))))).notify m.agent
          (.granted h .exclusive s.dir.nextToken m.tag true m.prompt))).contentionCheck h i := by
  have hrecord := State.clearUpgrade_record hr hm
  have hmember : (s.clearUpgrade h i).member i =
      some { m with upgradePending := false, deadline := none, checkOk := true } := by
    rw [State.clearUpgrade_eq hr hm]
    exact Table.get_put_self _ _ _
  have hexclusive :
      (s.clearUpgrade h i).makeExclusive h i =
        tokenTaken
          (wroteCounts m.agent { s.counts m.agent with upgrades := (s.counts m.agent).upgrades - 1 }
            (wrote h { r with upgrade := none, mode := .exclusive }
              (wroteMember i
                { m with
                  upgradePending := false, deadline := none, mode := .exclusive, token := s.dir.nextToken
                  noticed := false }
                (undue i m s)))) := by
    rw [State.makeExclusive_eq hrecord hmember, State.clearUpgrade_nextToken, State.clearUpgrade_eq hr hm]
    simp only [wroteCounts, wrote, wroteMember, tokenTaken, sealed, undue_dir, Table.put_put]
  simp only [State.grantUpgrade, hm, hexclusive, State.count_eq_counted]

theorem State.grantUpgrade_record (hr : s.record h = some r) (hm : s.member i = some m) :
    (s.grantUpgrade h i).record h = some { r with upgrade := none, mode := .exclusive, checkOk := true } := by
  have hcounted (t : State) (k : StatReg) : (counted k t).record h = t.record h := rfl
  rw [State.grantUpgrade_eq hr hm, State.contentionCheck_record, hcounted, State.notify_record]
  exact wrote_record_self h _ _

theorem State.upgradeStage_of_none (hr : s.record h = some r) (hnone : r.upgrade = none) : s.upgradeStage h = (s, false) := by
  simp only [State.upgradeStage, hr, hnone]

theorem State.upgradeStage_of_retiring (hr : s.record h = some r) (hup : r.upgrade = some i) (hm : s.member i = some m)
    (hretiring : (s.session m.agent).state = .retiring) : s.upgradeStage h = (s.clearUpgrade h i, false) := by
  simp only [State.upgradeStage, hr, hup, hm, hretiring, if_true]

theorem State.upgradeStage_of_granted (hr : s.record h = some r) (hup : r.upgrade = some i) (hm : s.member i = some m)
    (hstays : (s.session m.agent).state ≠ .retiring) (hsole : r.holders = [i]) (hpos : s.dir.nextToken ≠ 0) :
    s.upgradeStage h = (s.grantUpgrade h i, true) := by
  have hgrant : r.holders = [i] ∧ ¬ s.exhausted = true := ⟨hsole, mt s.exhausted_iff.mp hpos⟩
  simp only [State.upgradeStage, hr, hup, hm, if_neg hstays, if_pos hgrant]

theorem State.upgradeStage_of_withheld (hr : s.record h = some r) (hup : r.upgrade = some i) (hm : s.member i = some m)
    (hstays : (s.session m.agent).state ≠ .retiring) (hnot : r.holders ≠ [i] ∨ s.dir.nextToken = 0) :
    s.upgradeStage h = (s, false) := by
  have hgrant : ¬ (r.holders = [i] ∧ ¬ s.exhausted = true) := by
    rintro ⟨hsole, hpos⟩
    rcases hnot with h | h
    · exact h hsole
    · exact hpos (s.exhausted_iff.mpr h)
  simp only [State.upgradeStage, hr, hup, hm, if_neg hstays, if_neg hgrant]

/-- The first stage leaves the record's lists. -/
theorem State.upgradeStage_record (hr : s.record h = some r) :
    ∃ r', (s.upgradeStage h).1.record h = some r' ∧ r'.holders = r.holders ∧ r'.waiters = r.waiters := by
  simp only [State.upgradeStage, hr]
  repeat' split
  · exact ⟨r, hr, rfl, rfl⟩
  · exact ⟨r, hr, rfl, rfl⟩
  · next m hm _ => exact ⟨_, State.clearUpgrade_record hr hm, rfl, rfl⟩
  · next m hm _ _ => exact ⟨_, State.grantUpgrade_record hr hm, rfl, rfl⟩
  · exact ⟨r, hr, rfl, rfl⟩

theorem State.retireIfEmpty_of_holders (hr : s.record h = some r) (hholders : r.holders ≠ []) : s.retireIfEmpty h = s := by
  simp only [State.retireIfEmpty, hr, List.isEmpty_iff, hholders, false_and, if_false]

end

/-- Settles O19: the first stage grants and ends the pass, and a record with a holder does not retire. -/
theorem grantPassServesThePendingUpgradeFirst : Obligations.GrantPassServesThePendingUpgradeFirst := by
  intro s h i r m d hr hup hsole hm hstays hpos hd
  subst hd
  have hpass : s.grantPass h = (s.grantUpgrade h i).retireIfEmpty h := by
    simp only [State.grantPass, State.upgradeStage_of_granted hr hup hm hstays hsole hpos, if_true]
  rw [hpass, State.retireIfEmpty_of_holders (State.grantUpgrade_record hr hm) (by simp [hsole]),
    State.grantUpgrade_eq hr hm]
  rfl

/-! ### The run through the queue (R44, R46, R48) -/

theorem Record.takesWaiter_iff (r : Record) : r.takesWaiter = true ↔ Takes r := by
  simp only [Record.takesWaiter, Takes, Bool.or_eq_true, Bool.and_eq_true, decide_eq_true_iff, List.isEmpty_iff,
    Option.isNone_iff_eq_none]

section
variable {s : State} {h i n : Nat} {ws g : List Nat} {r : Record} {m : Membership}

theorem State.grantRun_of_full (hr : s.record h = some r) (hfull : ¬ Takes r) :
    State.grantRun h (n + 1) g s = (s, g) := by
  simp only [State.grantRun, hr, if_neg (mt r.takesWaiter_iff.mp hfull)]

theorem State.grantRun_of_served (hr : s.record h = some r) (hwaiters : r.waiters = []) :
    State.grantRun h n g s = (s, g) := by
  cases n with
  | zero => rfl
  | succ n =>
    simp only [State.grantRun, hr, hwaiters]
    split <;> rfl

theorem State.grantRun_of_missing (hr : s.record h = some r) (htakes : Takes r) (hwaiters : r.waiters = i :: ws)
    (hm : s.member i = none) : State.grantRun h (n + 1) g s = (s, g) := by
  simp only [State.grantRun, hr, if_pos (r.takesWaiter_iff.mpr htakes), hwaiters, hm]

theorem State.grantRun_of_retiring (hr : s.record h = some r) (htakes : Takes r) (hwaiters : r.waiters = i :: ws)
    (hm : s.member i = some m) (hretiring : (s.session m.agent).state = .retiring) :
    State.grantRun h (n + 1) g s = State.grantRun h n g (s.removeWait h i) := by
  simp only [State.grantRun, hr, if_pos (r.takesWaiter_iff.mpr htakes), hwaiters, hm, hretiring, if_true]

theorem State.grantRun_of_withheld (hr : s.record h = some r) (htakes : Takes r) (hwaiters : r.waiters = i :: ws)
    (hm : s.member i = some m) (hstays : (s.session m.agent).state ≠ .retiring) (hwithheld : Withheld s r m) :
    State.grantRun h (n + 1) g s = (s, g) := by
  simp only [State.grantRun, hr, if_pos (r.takesWaiter_iff.mpr htakes), hwaiters, hm, if_neg hstays, State.exhausted_iff,
    List.isEmpty_iff]
  rcases hwithheld with hzero | ⟨hholders, hmode⟩
  · rw [if_pos hzero]
  · split
    · rfl
    · rw [if_neg (by simp [hholders, hmode])]

theorem State.grantRun_of_granted (hr : s.record h = some r) (htakes : Takes r) (hwaiters : r.waiters = i :: ws)
    (hm : s.member i = some m) (hstays : (s.session m.agent).state ≠ .retiring) (hfree : ¬ Withheld s r m) :
    State.grantRun h (n + 1) g s = State.grantRun h n (g ++ [i]) (s.grantWaiter h i) := by
  have hpos : ¬ s.dir.nextToken = 0 := fun hzero => hfree (.inl hzero)
  have hcompatible : r.holders = [] ∨ m.mode = .shared := by
    by_contra hnot
    refine hfree (.inr ⟨fun hnil => hnot (.inl hnil), ?_⟩)
    cases hmode : m.mode with
    | exclusive => rfl
    | shared => exact absurd (.inr hmode) hnot
  simp only [State.grantRun, hr, if_pos (r.takesWaiter_iff.mpr htakes), hwaiters, hm, if_neg hstays, State.exhausted_iff,
    if_neg hpos, List.isEmpty_iff, if_pos hcompatible]

/-- What a run from `s`, whose record is `r`, makes of the record and of the list of grants `g`. -/
structure RunOutcome (h : Nat) (s : State) (r : Record) (g : List Nat) (done : State × List Nat) : Prop where
  outcome : ∃ r' n gs, done.1.record h = some r' ∧ done.2 = g ++ gs ∧ r'.waiters = r.waiters.drop n ∧
    r'.holders = r.holders ++ gs ∧ gs.Sublist (r.waiters.take n) ∧
    ((∀ i ∈ r.waiters, ∃ m, s.member i = some m) → Run h s gs done.1)

/-- The run stops with the state and the grants as they are. -/
theorem RunOutcome.stop (hr : s.record h = some r) (hrun : (∀ i ∈ r.waiters, ∃ m, s.member i = some m) → Run h s [] s) :
    RunOutcome h s r g (s, g) :=
  ⟨r, 0, [], hr, by simp, by simp, by simp, by simp, hrun⟩

theorem filter_head (hnodup : (i :: ws).Nodup) : (i :: ws).filter (fun j => decide (j ≠ i)) = ws := by
  obtain ⟨hi, -⟩ := List.nodup_cons.mp hnodup
  rw [List.filter_cons_of_neg (by simp), List.filter_eq_self]
  intro j hj
  simp only [decide_eq_true_iff]
  rintro rfl
  exact hi hj

/-- The members behind the head waiter stand while the head is removed or granted. -/
theorem members_behind {t : State} (hnodup : (i :: ws).Nodup) (hkept : ∀ j, j ≠ i → t.member j = s.member j)
    (hall : ∀ j ∈ i :: ws, ∃ x, s.member j = some x) : ∀ j ∈ ws, ∃ x, t.member j = some x := by
  obtain ⟨hi, -⟩ := List.nodup_cons.mp hnodup
  intro j hj
  rw [hkept j (by rintro rfl; exact hi hj)]
  exact hall j (List.mem_cons_of_mem _ hj)

/-- The run through the queue, by induction on the rounds that are left. -/
theorem State.grantRun_outcome (h n : Nat) (g : List Nat) (s : State) (r : Record) (hr : s.record h = some r)
    (hnodup : r.waiters.Nodup) (hrounds : r.waiters.length ≤ n) : RunOutcome h s r g (State.grantRun h n g s) := by
  induction n generalizing g s r with
  | zero =>
    have hnil := List.length_eq_zero_iff.mp (Nat.le_zero.mp hrounds)
    exact .stop hr fun _ => .served s r hr hnil
  | succ n ih =>
    by_cases htakes : Takes r
    · cases hwaiters : r.waiters with
      | nil =>
        rw [State.grantRun_of_served hr hwaiters]
        exact .stop hr fun _ => .served s r hr hwaiters
      | cons i ws =>
        rw [hwaiters] at hnodup hrounds
        have hbehind := (List.nodup_cons.mp hnodup).2
        have hless : ws.length ≤ n := Nat.le_of_succ_le_succ hrounds
        cases hm : s.member i with
        | none =>
          rw [State.grantRun_of_missing hr htakes hwaiters hm]
          refine .stop hr fun hall => ?_
          obtain ⟨m, hm'⟩ := hall i (by rw [hwaiters]; exact List.mem_cons_self)
          rw [hm] at hm'
          cases hm'
        | some m =>
          by_cases hretiring : (s.session m.agent).state = .retiring
          · rw [State.grantRun_of_retiring hr htakes hwaiters hm hretiring]
            have hrecord := State.removeWait_record hr hm
            rw [hwaiters, filter_head hnodup] at hrecord
            obtain ⟨r', k, gs, hr', hgs, hdrop, hholders, hsub, hrun⟩ := (ih g _ _ hrecord hbehind hless).outcome
            refine ⟨r', k + 1, gs, hr', hgs, by rw [hwaiters, List.drop_succ_cons]; exact hdrop, hholders, ?_, fun hall => ?_⟩
            · rw [hwaiters, List.take_succ_cons]
              exact hsub.trans (List.sublist_cons_self ..)
            · rw [hwaiters] at hall
              exact .removed s _ gs r i ws m hr htakes hwaiters hm hretiring
                (hrun (members_behind hnodup (fun j hj => State.removeWait_member_of_ne hj) hall))
          · by_cases hwithheld : Withheld s r m
            · rw [State.grantRun_of_withheld hr htakes hwaiters hm hretiring hwithheld]
              exact .stop hr fun _ => .withheld s r i ws m hr hwaiters hm hretiring hwithheld
            · rw [State.grantRun_of_granted hr htakes hwaiters hm hretiring hwithheld]
              have hrecord := State.grantWaiter_record hr hm
              rw [hwaiters, filter_head hnodup] at hrecord
              obtain ⟨r', k, gs, hr', hgs, hdrop, hholders, hsub, hrun⟩ := (ih (g ++ [i]) _ _ hrecord hbehind hless).outcome
              refine ⟨r', k + 1, i :: gs, hr', by rw [hgs]; simp, by rw [hwaiters, List.drop_succ_cons]; exact hdrop,
                by rw [hholders]; simp, ?_, fun hall => ?_⟩
              · rw [hwaiters, List.take_succ_cons]
                exact hsub.cons_cons i
              · rw [hwaiters] at hall
                exact .granted s _ gs r i ws m hr htakes hwaiters hm hretiring hwithheld
                  (hrun (members_behind hnodup (fun j hj => State.grantWaiter_member_of_ne hj) hall))
    · rw [State.grantRun_of_full hr htakes]
      exact .stop hr fun _ => .full s r hr htakes

/-! ### The whole pass (R8, R47, R49) -/

/-- The contention checks and the retirement end the pass. -/
theorem State.passEnded_eq (h : Nat) (g : List Nat) (t : State) :
    (g.foldl (fun u i => u.contentionCheck h i) t).retireIfEmpty h = passEnded h g t := by
  simp only [State.retireIfEmpty, passEnded, List.isEmpty_iff]
  cases (g.foldl (fun u i => u.contentionCheck h i) t).record h <;> rfl

theorem State.waiterStage_of_record (hr : s.record h = some r) :
    s.waiterStage h =
      (s.grantRun h r.waiters.length []).2.foldl (fun s i => s.contentionCheck h i)
        (s.grantRun h r.waiters.length []).1 := by
  simp only [State.waiterStage, hr]

/-- The second stage and the end of the pass are a run and `passEnded`. -/
theorem State.waiterStage_run (hr : s.record h = some r) (hnodup : r.waiters.Nodup)
    (hall : ∀ i ∈ r.waiters, ∃ m, s.member i = some m) :
    ∃ g t, Run h s g t ∧ (s.waiterStage h).retireIfEmpty h = passEnded h g t := by
  obtain ⟨-, -, gs, -, hgs, -, -, -, hrun⟩ := (State.grantRun_outcome h _ [] s r hr hnodup (Nat.le_refl _)).outcome
  refine ⟨gs, _, hrun hall, ?_⟩
  rw [State.waiterStage_of_record hr, hgs, List.nil_append, State.passEnded_eq]

/-- The record after the second stage. -/
theorem State.waiterStage_record (hr : s.record h = some r) (hnodup : r.waiters.Nodup) :
    ∃ r' n g, (s.waiterStage h).record h = some r' ∧ r'.waiters = r.waiters.drop n ∧ r'.holders = r.holders ++ g ∧
      g.Sublist (r.waiters.take n) := by
  obtain ⟨r', n, gs, hr', -, hdrop, hholders, hsub, -⟩ :=
    (State.grantRun_outcome h _ [] s r hr hnodup (Nat.le_refl _)).outcome
  refine ⟨r', n, gs, ?_, hdrop, hholders, hsub⟩
  rw [State.waiterStage_of_record hr, State.contentionChecks_record]
  exact hr'

theorem State.retireIfEmpty_slot (hr : s.record h = some r) :
    (s.retireIfEmpty h).slot h = none ∨ (s.retireIfEmpty h).slot h = some (.live r) := by
  simp only [State.retireIfEmpty, hr]
  split
  · exact .inl (Table.get_free_self _ _)
  · exact .inr (State.slot_of_record hr)

/-- The slot after the pass: FREE, or the record with a tail of its queue and the holds granted behind the holders. -/
theorem State.grantPass_slot (hr : s.record h = some r) (hnodup : r.waiters.Nodup) :
    (s.grantPass h).slot h = none ∨
      ∃ r' n g, (s.grantPass h).slot h = some (.live r') ∧ r'.waiters = r.waiters.drop n ∧
        r'.holders = r.holders ++ g ∧ g.Sublist (r.waiters.take n) := by
  obtain ⟨r₁, hr₁, hholders₁, hwaiters₁⟩ := State.upgradeStage_record hr
  simp only [State.grantPass]
  split
  · rcases State.retireIfEmpty_slot hr₁ with hfree | hlive
    · exact .inl hfree
    · exact .inr ⟨r₁, 0, [], hlive, by simpa using hwaiters₁, by simpa using hholders₁, by simp⟩
  · obtain ⟨r', n, g, hr', hdrop, hholders, hsub⟩ := State.waiterStage_record hr₁ (by rwa [hwaiters₁])
    rcases State.retireIfEmpty_slot hr' with hfree | hlive
    · exact .inl hfree
    · exact .inr ⟨r', n, g, hlive, hwaiters₁ ▸ hdrop, hholders₁ ▸ hholders, hwaiters₁ ▸ hsub⟩

/-! ### A record without holders goes to its head waiter (R46) -/

/-- The hold `i` heads record `h`, which has mode `μ`, and its membership is as `P` says. -/
def HeadHold (h i : Nat) (μ : Mode) (P : Membership → Prop) (s : State) : Prop :=
  ∃ r m, s.record h = some r ∧ r.mode = μ ∧ r.holders.head? = some i ∧ i ∉ r.waiters ∧ s.member i = some m ∧ P m

variable {μ : Mode} {P : Membership → Prop}

theorem HeadHold.removeWait {j : Nat} (hs : HeadHold h i μ P s) (hj : j ≠ i) (hm : s.member j = some m) :
    HeadHold h i μ P (s.removeWait h j) := by
  obtain ⟨r, x, hr, hmode, hhead, hi, hx, hP⟩ := hs
  exact ⟨_, x, State.removeWait_record hr hm, hmode, hhead, fun h' => hi (List.mem_filter.mp h').1,
    (State.removeWait_member_of_ne hj.symm).trans hx, hP⟩

theorem HeadHold.grantWaiter {j : Nat} (hs : HeadHold h i μ P s) (hj : j ≠ i) (hm : s.member j = some m) :
    HeadHold h i μ P (s.grantWaiter h j) := by
  obtain ⟨r, x, hr, hmode, hhead, hi, hx, hP⟩ := hs
  have hholders : r.holders ≠ [] := by
    intro hnil
    simp [hnil] at hhead
  refine ⟨_, x, State.grantWaiter_record hr hm, ?_, ?_, fun h' => hi (List.mem_filter.mp h').1,
    (State.grantWaiter_member_of_ne hj.symm).trans hx, hP⟩
  · simp [hholders, hmode]
  · rw [List.head?_append_of_ne_nil _ hholders]
    exact hhead

/-- A notice changes of a membership that it was told. -/
theorem HeadHold.contend {j : Nat} {wanted : Mode} (hs : HeadHold h i μ P s)
    (hP : ∀ x, P x → P { x with noticed := true, checkOk := true }) : HeadHold h i μ P (s.contend h wanted j) := by
  obtain ⟨r, x, hr, hmode, hhead, hi, hx, hPx⟩ := hs
  by_cases hj : i = j
  · subst hj
    simp only [State.contend, hx]
    split
    · exact ⟨r, { x with noticed := true, checkOk := true }, by rwa [State.notify_record, State.putMember_record], hmode,
        hhead, hi, by rw [State.notify_member]; exact Table.get_put_self _ _ _, hP x hPx⟩
    · exact ⟨r, x, hr, hmode, hhead, hi, hx, hPx⟩
  · refine ⟨r, x, by rwa [State.contend_record], hmode, hhead, hi, ?_, hPx⟩
    simp only [State.contend]
    repeat' split
    · exact hx
    · rw [State.notify_member]
      exact (Table.get_put_of_ne _ _ hj).trans hx
    · exact hx

theorem HeadHold.contentionChecks (hP : ∀ x, P x → P { x with noticed := true, checkOk := true }) (l : List Nat)
    (hs : HeadHold h i μ P s) : HeadHold h i μ P (l.foldl (fun s j => s.contentionCheck h j) s) := by
  induction l generalizing s with
  | nil => exact hs
  | cons j l ih =>
    refine ih ?_
    simp only [State.contentionCheck]
    repeat' split
    · exact hs
    · exact hs
    · exact hs
    · exact hs.contend hP

theorem HeadHold.grantRun (n : Nat) (g : List Nat) (hs : HeadHold h i μ P s) :
    HeadHold h i μ P (State.grantRun h n g s).1 := by
  induction n generalizing g s with
  | zero => exact hs
  | succ n ih =>
    obtain ⟨r, x, hr, hrest⟩ := id hs
    obtain ⟨-, -, hi, -⟩ := hrest
    simp only [State.grantRun, hr]
    repeat' split
    · exact hs
    · exact hs
    · next j _ hwaiters _ m hm _ =>
      exact ih _ (hs.removeWait (by rintro rfl; exact hi (by rw [hwaiters]; exact List.mem_cons_self)) hm)
    · exact hs
    · next j _ hwaiters _ m hm _ _ _ =>
      exact ih _ (hs.grantWaiter (by rintro rfl; exact hi (by rw [hwaiters]; exact List.mem_cons_self)) hm)
    · exact hs
    · exact hs

theorem State.grantWaiter_member_self (hr : s.record h = some r) (hm : s.member i = some m) :
    (s.grantWaiter h i).member i =
      some { m with role := .hold, token := s.dir.nextToken, noticed := false, deadline := none, checkOk := true } := by
  have hcounted (t : State) (k : StatReg) : (counted k t).member i = t.member i := rfl
  rw [State.grantWaiter_eq hr hm, hcounted, State.notify_member]
  exact Table.get_put_self _ _ _

/-- The head waiter of a record without holders is granted first, and what follows leaves its hold. -/
theorem State.grantPass_headHold (hr : s.record h = some r) (hnone : r.upgrade = none) (hnobody : r.holders = [])
    (hwaiters : r.waiters = i :: ws) (hm : s.member i = some m) (hstays : (s.session m.agent).state ≠ .retiring)
    (hpos : s.dir.nextToken ≠ 0) (hP : ∀ x, P x → P { x with noticed := true, checkOk := true })
    (hgranted : P { m with
      role := .hold, token := s.dir.nextToken, noticed := false, deadline := none, checkOk := true }) :
    HeadHold h i m.mode P (s.grantPass h) := by
  have hfree : ¬ Withheld s r m := by
    rintro (hzero | ⟨hholders, -⟩)
    · exact hpos hzero
    · exact hholders hnobody
  have hfirst : HeadHold h i m.mode P (s.grantWaiter h i) := by
    refine ⟨_, _, State.grantWaiter_record hr hm, ?_, ?_, ?_, State.grantWaiter_member_self hr hm, hgranted⟩
    · simp [hnobody]
    · simp [hnobody]
    · simp
  have hrun : HeadHold h i m.mode P (s.waiterStage h) := by
    rw [State.waiterStage_of_record hr, hwaiters, List.length_cons,
      State.grantRun_of_granted hr (.inl hnobody) hwaiters hm hstays hfree]
    exact HeadHold.contentionChecks hP _ (hfirst.grantRun _ _)
  have hpass : s.grantPass h = (s.waiterStage h).retireIfEmpty h := by
    simp only [State.grantPass, State.upgradeStage_of_none hr hnone, Bool.false_eq_true, if_false]
  obtain ⟨r', x, hr', hmode, hhead, hi, hx, hPx⟩ := hrun
  rw [hpass, State.retireIfEmpty_of_holders hr' (by intro hnil; simp [hnil] at hhead)]
  exact ⟨r', x, hr', hmode, hhead, hi, hx, hPx⟩

end

/-- Settles O18: the frame of the pass; its run by induction on the queue; and the first grant, which later grants, removals
and notices leave. -/
theorem grantPassServesTheQueueInOrder : Obligations.GrantPassServesTheQueueInOrder := by
  intro s h r hr hnodup
  have hframe := State.grantPass_frame h s
  refine ⟨(s.grantPass_onRecord h).slot, hframe.sessions, hframe.sweep, hframe.clock, fun a => ?ports,
    State.grantPass_slot hr hnodup, fun i m ws hnobody hnone hwaiters hm hstays hpos => ?head,
    fun hall => ⟨fun i m hup hm hretiring => ?retiring, fun hup => ?run⟩⟩
  case ports =>
    rw [hframe.port a]
    exact ⟨rfl, rfl, rfl⟩
  case head =>
    obtain ⟨r', m', hr', hmode, hhead, -, hm', hP⟩ := State.grantPass_headHold
      (P := fun x => x.agent = m.agent ∧ x.role = .hold ∧ x.mode = m.mode ∧ x.token = s.dir.nextToken ∧
        x.stamp = m.stamp ∧ x.tag = m.tag ∧ x.deadline = none)
      hr hnone hnobody hwaiters hm hstays hpos (fun _ hx => hx) ⟨rfl, rfl, rfl, rfl, rfl, rfl, rfl⟩
    exact ⟨r', m', hr', hmode, hhead, hm', hP⟩
  case retiring =>
    have hpass : s.grantPass h = ((s.clearUpgrade h i).waiterStage h).retireIfEmpty h := by
      simp only [State.grantPass, State.upgradeStage_of_retiring hr hup hm hretiring, Bool.false_eq_true, if_false]
    rw [hpass]
    refine State.waiterStage_run (State.clearUpgrade_record hr hm) hnodup fun j hj => ?_
    obtain ⟨x, hx⟩ := hall j hj
    exact Option.ne_none_iff_exists'.mp (State.clearUpgrade_member_isSome (by simp [hx]))
  case run =>
    have hstage : s.upgradeStage h = (s, false) := by
      rcases hup with hnone | ⟨i, m, hup, hm, hstays, hnot⟩
      · exact State.upgradeStage_of_none hr hnone
      · exact State.upgradeStage_of_withheld hr hup hm hstays hnot
    have hpass : s.grantPass h = (s.waiterStage h).retireIfEmpty h := by
      simp only [State.grantPass, hstage, Bool.false_eq_true, if_false]
    rw [hpass]
    exact State.waiterStage_run hr hnodup hall

end Sys2Proof.Machine
end

section
/-! SUPPORT. The sweep steps as explicit updates, and the statements on them (R100 to R108). -/

namespace Sys2Proof.Machine

open Sys2Proof.Expect

section
variable {s : State} {a : AgentId} {h i : Nat} {m : Membership} {r : Record}

theorem exec_teardownStep_of_turn {rest : List SweepJob} (hturn : SweepTurn s (.teardown a) rest) :
    exec .teardownStep s = .next (ended (State.teardownStep a (begun .sweep s))) := by
  obtain ⟨hreset, hnext, hqueue⟩ := hturn
  rw [← State.turn_of_turn hreset hnext]
  simp only [exec, execTeardownStep, hqueue, List.head?_cons]

theorem exec_cleanupStep_of_turn {rest : List SweepJob} (hturn : SweepTurn s (.cleanup h) rest) :
    exec .cleanupStep s = .next (ended (State.cleanupStep h (begun .sweep s))) := by
  obtain ⟨hreset, hnext, hqueue⟩ := hturn
  rw [← State.turn_of_turn hreset hnext]
  simp only [exec, execCleanupStep, hqueue, List.head?_cons]

theorem State.dropJob_eq_jobDone (s : State) : s.dropJob = jobDone s := by
  simp only [State.dropJob, jobDone, List.drop_one]

/-- A membership of a QUARANTINED slot is freed in one update (R102, R106). -/
theorem State.freeDetached_eq_detached (hm : s.member i = some m) : s.freeDetached i m = detached i m s := by
  have hfree : (s.withdrawDeadline i).freeEntry i m = (undue i m s).freeEntry i m := by
    cases hset : m.deadline.isSome with
    | true =>
      rw [State.withdrawDeadline_of_set hm hset, undue, hset, if_pos rfl, State.freeEntry_eq, State.freeEntry_eq]
      simp only [wroteMember, freed, wroteCounts, State.counts, Table.free_put]
    | false => rw [State.withdrawDeadline_of_unset hset hm, undue, hset]; rfl
  rw [State.freeDetached, hfree, State.freeEntry_eq, undue_counts, detached]
  cases hrole : m.role <;> cases hpending : m.upgradePending <;>
    simp [State.editCounts_eq, State.putCounts, wroteCounts, State.counts, Per.put_put, Per.get_put_self, undue, freed]

/-! ### The membership a step takes -/

theorem State.holdings_of_none (hnone : ∀ e ∈ s.dir.pool, e.2.agent ≠ a) : s.holdings a = [] :=
  List.eq_nil_iff_forall_not_mem.mpr fun e he =>
    hnone e ((s.mem_holdings_iff a e).mp he).1 ((s.mem_holdings_iff a e).mp he).2

/-- The holdings list begins with the membership whose stamp every other one exceeds (R54, R100). -/
theorem State.holdings_of_lowest (hmem : (i, m) ∈ s.dir.pool) (hagent : m.agent = a)
    (hlowest : ∀ e ∈ s.dir.pool, e.2.agent = a → e = (i, m) ∨ m.stamp < e.2.stamp) :
    ∃ rest, s.holdings a = (i, m) :: rest := by
  have hin : (i, m) ∈ s.holdings a := (s.mem_holdings_iff a (i, m)).mpr ⟨hmem, hagent⟩
  have hpairs := s.holdings_pairwise a
  cases hlist : s.holdings a with
  | nil => rw [hlist] at hin; exact absurd hin List.not_mem_nil
  | cons e rest =>
    have he := (s.mem_holdings_iff a e).mp (by rw [hlist]; exact List.mem_cons_self)
    rcases hlowest e he.1 he.2 with heq | hlt
    · exact ⟨rest, by rw [heq]⟩
    · rw [hlist] at hin hpairs
      rcases List.mem_cons.mp hin with heq | hbehind
      · exact ⟨rest, by rw [heq]⟩
      · exact absurd hlt (BitVec.not_lt.mpr (List.rel_of_pairwise_cons hpairs hbehind))

theorem State.memberNaming_of_none (hnone : ∀ e ∈ s.dir.pool, e.2.handle ≠ h) : s.memberNaming h = none :=
  List.find?_eq_none.mpr fun e he => by simpa using hnone e he

/-- The pool lies in order of index: the first entry that names a slot is the lowest-indexed one (R106). -/
theorem State.memberNaming_of_lowest (hwf : Table.wf Config.poolSize s.dir.pool = true) (hmem : (i, m) ∈ s.dir.pool)
    (hhandle : m.handle = h) (hlowest : ∀ e ∈ s.dir.pool, e.2.handle = h → i ≤ e.1) :
    s.memberNaming h = some (i, m) := by
  rw [State.memberNaming, List.find?_eq_some_iff_append]
  obtain ⟨before, after, hpool⟩ := List.append_of_mem hmem
  refine ⟨decide_eq_true hhandle, before, after, hpool, fun e he => ?_⟩
  have hrising := ((Table.wf_iff _ _).mp hwf).1
  rw [hpool, List.map_append, List.pairwise_append] at hrising
  have hlt : e.1 < i := hrising.2.2 e.1 (List.mem_map_of_mem he) i (by simp)
  have hne : e.2.handle ≠ h := fun heq => by
    have := hlowest e (by rw [hpool]; exact List.mem_append_left _ he) heq
    omega
  simpa using hne

end

/-! ### The steps -/

/-- Settles O32: the head of the holdings list is the membership with the lowest stamp; one branch of
`State.teardownStep` for each clause. -/
theorem teardownFreesTheLowestStampFirst : Obligations.TeardownFreesTheLowestStampFirst := by
  intro s a rest u hturn hu
  rw [exec_teardownStep_of_turn hturn, ← hu]
  clear hturn hu
  refine ⟨fun hnone => ?_, fun i m hmem hagent hm hlowest => ?_⟩
  · simp only [State.teardownStep, State.holdings_of_none hnone, State.dropJob_eq_jobDone,
      State.completeTeardown_eq_closed]
  · obtain ⟨behind, hlist⟩ := State.holdings_of_lowest hmem hagent hlowest
    refine ⟨fun hfault => ?_, fun r hok hslot => ⟨fun hv => ?_, fun hv => ?_, fun hv hrole => ?_, fun hv hrole => ?_⟩,
      fun c r hok hslot => ?_⟩
    · simp only [State.teardownStep, hlist, hfault, Bool.false_eq_true, if_false, State.memberFault_eq_halted]
    · simp only [State.teardownStep, hlist, hok, if_true, hslot, hv, State.quarantine_eq_quarantined]
    · simp only [State.teardownStep, hlist, hok, if_true, hslot, hv, State.memberFault_eq_halted]
    · simp only [State.teardownStep, hlist, hok, if_true, hslot, hv, State.teardownMember, hrole]
    · simp only [State.teardownStep, hlist, hok, if_true, hslot, hv, State.teardownMember, hrole]
    · simp only [State.teardownStep, hlist, hok, if_true, hslot, State.freeDetached_eq_detached hm]

theorem Membership.lost_eq_lostOf (m : Membership) : m.lost = lostOf m.handle m := by
  unfold Membership.lost lostOf
  cases m.role <;> rfl

/-- Settles O33: the first entry that names the slot is the lowest-indexed one; one branch of `State.cleanupStep` for each
clause. -/
theorem cleanupFreesTheLowestIndexFirst : Obligations.CleanupFreesTheLowestIndexFirst := by
  intro s h c r rest u hturn hu hslot
  rw [exec_cleanupStep_of_turn hturn, ← hu]
  refine ⟨fun hnone => ?_, fun i m hcanonical hmem hhandle hlowest => ?_⟩
  · simp only [State.cleanupStep, State.memberNaming_of_none hnone, State.dropJob_slot, hslot]
    rw [State.dropJob_eq_jobDone]
    rfl
  · have hwf : Table.wf Config.poolSize u.dir.pool = true := by
      rw [hu]
      exact (begun_edits s .sweep).pool.wf hcanonical.2
    have hnaming := State.memberNaming_of_lowest hwf hmem hhandle hlowest
    have hm : u.member i = some m := (Table.get_eq_some_iff hwf i m).mpr hmem
    have hsession : u.session m.agent = s.session m.agent := by
      rw [hu]
      exact (s.begun_sessionFrame .sweep).session m.agent
    refine ⟨fun hfault => ?_, fun hok hopen => ?_, fun hok hretiring => ?_⟩
    · simp only [State.cleanupStep, hnaming, hfault, Bool.false_eq_true, if_false, State.memberFault_eq_halted]
    · have hstep : State.cleanupStep h u = (u.notify m.agent m.lost).freeDetached i m := by
        simp only [State.cleanupStep, hnaming, hok, if_true, hsession]
        rcases hopen with hstate | hstate <;> rw [hstate]
      rw [hstep, State.freeDetached_eq_detached (by rw [State.notify_member, hm]), Membership.lost_eq_lostOf, hhandle]
    · simp only [State.cleanupStep, hnaming, hok, if_true, hsession, hretiring, State.freeDetached_eq_detached hm]

end Sys2Proof.Machine
end

section
/-! SUPPORT. Bytes, the CRC and the frames that the receiver accepts, and the statement on the checks of a frame and of a
body (R133, R135, R140). -/

namespace Sys2Proof.Machine

open Sys2Proof.Expect

/-! ### Bytes, most significant first -/

theorem extractLsb'_toNat {w : Nat} (v : BitVec w) (k : Nat) :
    v.extractLsb' (8 * k) 8 = BitVec.ofNat 8 (v.toNat / 256 ^ k) := by
  rw [BitVec.extractLsb', Nat.shiftRight_eq_div_pow, Nat.pow_mul]

theorem extractLsb'_high_toNat (w : BitVec 16) : (w.extractLsb' 8 8).toNat = w.toNat / 256 := by
  rw [extractLsb'_toNat w 1, BitVec.toNat_ofNat, pow_one]
  omega

theorem extractLsb'_low_toNat (w : BitVec 16) : (w.extractLsb' 0 8).toNat = w.toNat % 256 := by
  rw [extractLsb'_toNat w 0, BitVec.toNat_ofNat, pow_zero, Nat.div_one]

theorem be16_toNat (x y : Byte) : (be16 x y).toNat = x.toNat * 256 + y.toNat := by
  rw [be16, BitVec.toNat_append, ← Nat.shiftLeft_add_eq_or_of_lt y.isLt, Nat.shiftLeft_eq]

theorem be16_bytes16 (w : BitVec 16) : be16 (w.extractLsb' 8 8) (w.extractLsb' 0 8) = w := by
  apply BitVec.eq_of_toNat_eq
  rw [be16_toNat, extractLsb'_high_toNat, extractLsb'_low_toNat]
  omega

theorem bytes16_be16 (x y : Byte) : bytes16 (be16 x y) = [x, y] := by
  have hhigh : (be16 x y).extractLsb' 8 8 = x := by
    apply BitVec.eq_of_toNat_eq
    rw [extractLsb'_high_toNat, be16_toNat]
    omega
  have hlow : (be16 x y).extractLsb' 0 8 = y := by
    apply BitVec.eq_of_toNat_eq
    rw [extractLsb'_low_toNat, be16_toNat]
    omega
  rw [bytes16, hhigh, hlow]

theorem bigEndian_two (v : BitVec 16) : bigEndian 2 v.toNat = bytes16 v := by
  simp only [bigEndian, ← extractLsb'_toNat]
  rfl

/-! ### The CRC (R135) -/

/-- The division of a sum: the top bit of the second summand enters, its other bits wait, shifted. -/
theorem crcBit_xor (c y : BitVec 16) : crcBit (c ^^^ y) = crcStep c y.msb ^^^ (y <<< 1) := by
  have hshift : (c ^^^ y) <<< 1 = c <<< 1 ^^^ y <<< 1 := BitVec.shiftLeft_xor_distrib c y 1
  simp only [crcBit, crcStep, BitVec.msb_xor, hshift]
  cases c.msb ^^ y.msb
  · rfl
  · simp only [if_true]
    rw [BitVec.xor_assoc, BitVec.xor_comm (y <<< 1), ← BitVec.xor_assoc]

/-- Bit `k` of a byte, from its top, when the byte stands at the top of the register. -/
theorem msb_shifted_byte (b : Byte) (k : Nat) (hk : k < 8) :
    ((b.setWidth 16 <<< 8 : BitVec 16) <<< k).msb = b.getMsbD k := by
  simp only [BitVec.msb_eq_getLsbD_last, BitVec.getLsbD_shiftLeft, BitVec.getLsbD_setWidth, BitVec.getMsbD_eq_getLsbD]
  rw [show 16 - 1 - k - 8 = 8 - 1 - k by omega]
  simp [hk, show ¬ 15 < k by omega, show 15 - k < 16 by omega, show 7 - k < 16 by omega, show ¬ 15 - k < 8 by omega]

/-- A byte enters the CRC bit by bit. -/
theorem crcByte_eq_foldl (c : BitVec 16) (b : Byte) :
    crcByte c b = ((List.range 8).map (fun i => b.getMsbD i)).foldl crcStep c := by
  have hbit (k : Nat) (hk : k < 8) (d : BitVec 16) :
      crcBit (d ^^^ ((b.setWidth 16 <<< 8 : BitVec 16) <<< k)) =
        crcStep d (b.getMsbD k) ^^^ ((b.setWidth 16 <<< 8 : BitVec 16) <<< (k + 1)) := by
    rw [crcBit_xor, msb_shifted_byte b k hk, BitVec.shiftLeft_add]
  have hstart : crcByte c b = crcBit (crcBit (crcBit (crcBit (crcBit (crcBit (crcBit (crcBit
      (c ^^^ ((b.setWidth 16 <<< 8 : BitVec 16) <<< 0))))))))) := by
    rw [BitVec.shiftLeft_zero]
    rfl
  have hend : (b.setWidth 16 <<< 8 : BitVec 16) <<< 8 = 0#16 := by
    rw [← BitVec.shiftLeft_add]
    exact BitVec.shiftLeft_eq_zero (by decide)
  rw [hstart, hbit 0 (by decide), hbit 1 (by decide), hbit 2 (by decide), hbit 3 (by decide), hbit 4 (by decide),
    hbit 5 (by decide), hbit 6 (by decide), hbit 7 (by decide), hend, BitVec.xor_zero]
  rfl

theorem crc_eq_crcOf (contents : List Byte) : crc contents = crcOf contents := by
  have hfold (c : BitVec 16) :
      contents.foldl crcByte c =
        (contents.flatMap (fun x => (List.range 8).map (fun i => x.getMsbD i))).foldl crcStep c := by
    induction contents generalizing c with
    | nil => rfl
    | cons b rest ih =>
      rw [List.foldl_cons, List.flatMap_cons, List.foldl_append, ← crcByte_eq_foldl]
      exact ih _
  exact hfold _

theorem sealFrame_eq_framed (contents : List Byte) : sealFrame contents = framed contents := by
  rw [sealFrame, framed, crc_eq_crcOf, bigEndian_two]

/-! ### The frame checks (R135) -/

theorem frameContents_append (c : List Byte) (x y : Byte) :
    frameContents (c ++ [x, y]) = if [x, y] = bytes16 (crc c) then some c else none := by
  simp [frameContents]

theorem readFrame_of_wrong_crc {c : List Byte} {x y : Byte} (hwrong : x ++ y ≠ crc c) : readFrame (c ++ [x, y]) = none := by
  have hne : [x, y] ≠ bytes16 (crc c) := by
    intro heq
    simp only [bytes16, List.cons.injEq, and_true] at heq
    exact hwrong (by rw [heq.1, heq.2]; exact be16_bytes16 (crc c))
  simp only [readFrame, frameContents_append, if_neg hne]

theorem readFrame_sealFrame (c : List Byte) : readFrame (sealFrame c) = readContents c := by
  rw [sealFrame, bytes16, readFrame, frameContents_append, bytes16, if_pos rfl]

theorem readContents_request_eq_none_iff (c : List Byte) : readContents (1 :: c) = none ↔ c.length < 5 := by
  simp only [readContents]
  rcases c with _ | ⟨k, _ | ⟨t1, _ | ⟨t0, _ | ⟨e1, _ | ⟨e0, body⟩⟩⟩⟩⟩ <;> simp

theorem readContents_short_eq_none_iff {t : Byte} (c : List Byte) (ht : t = 2 ∨ t = 3) :
    readContents (t :: c) = none ↔ c.length ≠ 3 := by
  rcases ht with rfl | rfl <;> simp only [readContents] <;>
    rcases c with _ | ⟨n, _ | ⟨e1, _ | ⟨e0, _ | ⟨x, more⟩⟩⟩⟩ <;> simp

/-! ### The form of a body (R140) -/

/-- What is wrong with a body of kind `k` (R140). -/
def BadBody (k : ReqKind) (body : List Byte) : Prop :=
  body.length ≠ bodyLength k ∨ ((k = .acquire ∨ k = .lookup) ∧ BadNamespace body) ∨ (k = .acquire ∧ BadMode body) ∨
    ((k = .release ∨ k = .downgrade ∨ k = .upgrade ∨ k = .cancel) ∧ BadHandle body)

theorem malformed_iff (x : RawRequest) : Malformed x ↔ ∀ k, ReqKind.ofCode x.kind = some k → BadBody k x.body := by
  unfold Malformed
  split
  · next h => simp [h]
  · next k h => simp only [h, Option.some.injEq, forall_eq', BadBody]

theorem nsOk_iff (ns : Byte) : nsOk ns = true ↔ ¬ 15 < ns.toNat := by
  rw [nsOk, decide_eq_true_iff, Config.maxNamespace, not_lt]

theorem handleOk_be16_iff (h1 h0 : Byte) : handleOk (be16 h1 h0) = true ↔ ¬ 4095 < h1.toNat * 256 + h0.toNat := by
  simp only [handleOk, be16_toNat, Config.slotCount, decide_eq_true_iff]
  omega

theorem Mode.ofCode_eq_none_iff (b : Byte) : Mode.ofCode b = none ↔ b ≠ 1 ∧ b ≠ 2 := by
  unfold Mode.ofCode
  split
  · next h => simp [h]
  · next h => split <;> simp_all

theorem readBody_of_wrong_length {k : ReqKind} {body : List Byte} (hlength : body.length ≠ bodyLength k) :
    readBody k body = none := by
  unfold readBody
  split
  all_goals first | rfl | exact absurd rfl hlength

/-- A reader of bodies refuses those that are bad, and no others. -/
theorem readBody_eq_none_iff (k : ReqKind) (body : List Byte) : readBody k body = none ↔ BadBody k body := by
  by_cases hlength : body.length = bodyLength k
  · cases k with
    | openSession | resume | close | flush =>
      obtain rfl : body = [] := List.length_eq_zero_iff.mp hlength
      simp [readBody, BadBody, bodyLength]
    | acquire =>
      match body, hlength with
      | [ns, mode, opts, x, d1, d0, k7, k6, k5, k4, k3, k2, k1, k0], _ =>
        cases hmode : Mode.ofCode mode with
        | none =>
          have hbad := (Mode.ofCode_eq_none_iff mode).mp hmode
          exact iff_of_true (by simp [readBody, hmode]) (.inr (.inr (.inl ⟨rfl, by simpa [BadMode] using hbad⟩)))
        | some m =>
          have hgood : mode ≠ 1 → mode = 2 := by
            have : ¬ (mode ≠ 1 ∧ mode ≠ 2) := mt (Mode.ofCode_eq_none_iff mode).mpr (by simp [hmode])
            simpa using this
          simp [readBody, BadBody, BadMode, BadNamespace, bodyLength, hmode, nsOk_iff]
          exact fun h1 h2 => absurd (hgood h1) h2
    | release | downgrade =>
      match body, hlength with
      | [h1, h0, t7, t6, t5, t4, t3, t2, t1, t0], _ =>
        simp [readBody, BadBody, BadHandle, bodyLength, handleOk_be16_iff]
    | upgrade =>
      match body, hlength with
      | [h1, h0, t7, t6, t5, t4, t3, t2, t1, t0, opts, x, d1, d0], _ =>
        simp [readBody, BadBody, BadHandle, bodyLength, handleOk_be16_iff]
    | cancel =>
      match body, hlength with
      | [h1, h0], _ => simp [readBody, BadBody, BadHandle, bodyLength, handleOk_be16_iff]
    | lookup =>
      match body, hlength with
      | [ns, x, k7, k6, k5, k4, k3, k2, k1, k0], _ =>
        simp [readBody, BadBody, BadNamespace, bodyLength, nsOk_iff]
    | list =>
      match body, hlength with
      | [s3, s2, s1, s0], _ => simp [readBody, BadBody, bodyLength]
  · exact iff_of_true (readBody_of_wrong_length hlength) (.inl hlength)

theorem RawRequest.parse_eq_none_iff (x : RawRequest) : x.parse = none ↔ Malformed x := by
  rw [malformed_iff, RawRequest.parse]
  cases hkind : ReqKind.ofCode x.kind with
  | none => simp
  | some k =>
    simp only [Option.some.injEq, forall_eq', ← readBody_eq_none_iff]
    cases readBody k x.body <;> simp

/-! ### The statement -/

section
variable {s : State} {a : AgentId} {frame : List Byte}

theorem State.receive_of_link_down (hdown : (s.port a).linkUp = false) : s.receive a frame = s := by
  simp only [State.receive, hdown, Bool.and_false, Bool.false_eq_true, if_false]

theorem State.receive_of_unread (hreset : s.resetN = true) (hup : (s.port a).linkUp = true)
    (hread : readFrame frame = none) : s.receive a frame = counted (.agent a .framesDiscarded) s := by
  simp only [State.receive, hreset, hup, Bool.and_self, if_true, hread, State.count_eq_counted]

theorem exec_request_eq (s : State) (a : AgentId) (frame : List Byte) :
    exec (.request a frame) s = .next (s.receive a frame) := by rfl

theorem exec_keepalive_eq (s : State) (a : AgentId) (frame : List Byte) :
    exec (.keepalive a frame) s = .next (s.receive a frame) := by rfl

theorem exec_ack_eq (s : State) (a : AgentId) (frame : List Byte) :
    exec (.ack a frame) s = .next (s.receive a frame) := by rfl

end

/-- Settles O38: the three rows share the receiver; a frame is read when its CRC, its type and its length are right, and a
body when it is not bad. -/
theorem framesAndBodiesAreChecked : Obligations.FramesAndBodiesAreChecked := by
  refine ⟨fun s a frame => ⟨fun hdown => ?_, rfl, rfl⟩, fun s a frame hreset hup hread => ?_,
    fun c x y hwrong => readFrame_of_wrong_crc hwrong, fun t c h1 h2 h3 => ?_, fun c => ?_, fun t c ht => ?_,
    RawRequest.parse_eq_none_iff, crc_eq_crcOf, ?_⟩
  · rw [exec_request_eq, State.receive_of_link_down hdown]
  · rw [exec_request_eq, exec_keepalive_eq, exec_ack_eq, State.receive_of_unread hreset hup hread]
    exact ⟨rfl, rfl, rfl⟩
  · rw [readFrame_sealFrame]
    simp only [readContents, if_neg h1, if_neg h2, if_neg h3]
  · rw [readFrame_sealFrame, readContents_request_eq_none_iff]
  · rw [readFrame_sealFrame, readContents_short_eq_none_iff c ht]
  · set_option maxRecDepth 4000 in
    rw [← crc_eq_crcOf]
    decide

end Sys2Proof.Machine
end

section
/-! SUPPORT. The replay cache, the arrival checks of a request and the transmitter, and the statements on them (R78, R137 to
R142, R145). -/

namespace Sys2Proof.Machine

open Sys2Proof.Expect

/-! ### The replay cache (R142) -/

section
variable {e : CacheEntry} {cache : List CacheEntry}

theorem enterCache_of_tag_known (hlength : cache.length ≤ 16) (hknown : ∃ x ∈ cache, x.tag = e.tag) :
    enterCache e cache = cache.filter (fun x => decide (x.tag ≠ e.tag)) ++ [e] := by
  have hless : (cache.filter (fun x => decide (x.tag ≠ e.tag))).length < cache.length := by
    rw [List.length_filter_lt_length_iff_exists]
    simpa using hknown
  rw [enterCache, if_neg (by rw [Config.replaySize]; omega)]

theorem enterCache_of_tag_new (hnew : ∀ x ∈ cache, x.tag ≠ e.tag) :
    enterCache e cache = (if 16 ≤ cache.length then cache.drop 1 else cache) ++ [e] := by
  have hkept : cache.filter (fun x => decide (x.tag ≠ e.tag)) = cache :=
    List.filter_eq_self.mpr fun x hx => decide_eq_true (hnew x hx)
  simp only [enterCache, hkept]
  rfl

end

/-! ### The arrival checks (R137 to R141) -/

section
variable {s t : State} {a : AgentId} {x : RawRequest} {e : CacheEntry}

/-- The cache answers a request with an entry that matches it (R138). -/
theorem State.replayOf_eq_some {r : Result} (h : s.replayOf a x = some r) : ∃ e, Replays s a x e ∧ e.result = r := by
  simp only [State.replayOf] at h
  split at h
  · cases h
  · next k hkind =>
    split at h
    · next hactive =>
      split at h
      · cases h
      · next target htarget =>
        obtain ⟨e, hfind, hr⟩ := Option.map_eq_some_iff.mp h
        have hmatch := List.find?_some hfind
        obtain ⟨htag, hk, ht⟩ : e.tag = x.tag ∧ e.kind = k ∧ e.target = target := of_decide_eq_true hmatch
        exact ⟨e, ⟨hactive.1, List.mem_of_find?_eq_some hfind, htag, by rw [hkind, hk], by rw [hk]; exact hactive.2,
          by rw [hk, ht]; exact htarget⟩, hr⟩
    · cases h

/-- An entry that matches answers, as no two entries share a tag. -/
theorem State.replayOf_of_replays (hnodup : ((s.port a).replay.map CacheEntry.tag).Nodup) (h : Replays s a x e) :
    s.replayOf a x = some e.result := by
  obtain ⟨hactive, hmem, htag, hkind, hepoch, htarget⟩ := h
  have hfind : (s.port a).replay.find? (fun y => decide (y.tag = x.tag ∧ y.kind = e.kind ∧ y.target = e.target)) =
      some e := by
    cases hfound : (s.port a).replay.find?
        (fun y => decide (y.tag = x.tag ∧ y.kind = e.kind ∧ y.target = e.target)) with
    | none =>
      have := List.find?_eq_none.mp hfound e hmem
      simp [htag] at this
    | some y =>
      have hmatch := List.find?_some hfound
      have hytag : y.tag = x.tag := (of_decide_eq_true hmatch).1
      rw [List.inj_on_of_nodup_map hnodup (List.mem_of_find?_eq_some hfound) hmem (hytag.trans htag.symm)]
  simp only [State.replayOf, hkind, if_pos (And.intro hactive hepoch), htarget, hfind, Option.map_some]

theorem State.replayOf_of_no_replay (hnone : ∀ e, ¬ Replays s a x e) : s.replayOf a x = none := by
  cases hr : s.replayOf a x with
  | none => rfl
  | some r =>
    obtain ⟨e, he, -⟩ := State.replayOf_eq_some hr
    exact absurd he (hnone e)

theorem Port.holdsTag_iff (s : State) (a : AgentId) (x : RawRequest) :
    (s.port a).holdsTag x.tag = true ↔ Duplicate s a x := by
  simp only [Port.holdsTag, Duplicate, Bool.or_eq_true, List.any_eq_true, decide_eq_true_iff]

theorem Port.hasRoom_iff (s : State) (a : AgentId) : (s.port a).hasRoom = true ↔ Room s a := by
  rw [Port.hasRoom, decide_eq_true_iff, Port.outboundCount, Config.outboundSize, Room]

/-- An answer made at arrival joins the list or is dropped (R137). -/
theorem State.answerArrival_of_room (r : Result) (hroom : Room s a) : s.answerArrival a x r = (appended a x r s, true) := by
  simp only [State.answerArrival, (Port.hasRoom_iff s a).mpr hroom, if_true]
  rfl

theorem State.answerArrival_of_full (r : Result) (hfull : ¬ Room s a) :
    s.answerArrival a x r = (counted (.agent a .framesDiscarded) s, false) := by
  simp only [State.answerArrival, mt (Port.hasRoom_iff s a).mp hfull, Bool.false_eq_true, if_false,
    State.count_eq_counted]

theorem State.answerArrival_eq (s : State) (a : AgentId) (x : RawRequest) (r : Result) :
    (s.answerArrival a x r).1 = answeredOnArrival a x r s := by
  by_cases hroom : Room s a
  · rw [State.answerArrival_of_room r hroom, answeredOnArrival]
    exact (if_pos hroom).symm
  · rw [State.answerArrival_of_full r hroom, answeredOnArrival]
    exact (if_neg hroom).symm

/-- The session judgment of R78 and R140, row by row of the table of sessions. -/
theorem judgeArrival_eq_judged (c : Session) (k : Option ReqKind) (epoch : Epoch) :
    judgeArrival c k epoch = judged c k epoch := by
  by_cases hepoch : epoch = c.epoch <;> cases hstate : c.state <;> rcases k with _ | k <;> (try cases k) <;>
    simp [judgeArrival, judged, hstate, hepoch]

/-! ### The report (R83) leaves what the checks read -/

theorem heard_port (a b : AgentId) (epoch : Epoch) (s : State) : (heard a epoch s).port b = s.port b := by
  rw [heard]
  split <;> rfl

/-- The report writes the grace timer of a session and nothing that the checks read. -/
theorem heard_session (a : AgentId) (epoch : Epoch) (s : State) :
    ∃ due, (heard a epoch s).session a = { s.session a with graceDue := due } := by
  rw [heard]
  split
  · exact ⟨some (due s.clock.ms s.mgmt.config.grace), by simp only [graced, wroteSession, State.session, Per.get_put_self]⟩
  · exact ⟨(s.session a).graceDue, rfl⟩

theorem heard_replays (epoch : Epoch) (e : CacheEntry) : Replays (heard a epoch s) a x e ↔ Replays s a x e := by
  obtain ⟨due, hsession⟩ := heard_session a epoch s
  simp only [Replays, hsession, heard_port]

theorem heard_duplicate (epoch : Epoch) : Duplicate (heard a epoch s) a x ↔ Duplicate s a x := by
  simp only [Duplicate, heard_port]

theorem heard_room (epoch : Epoch) : Room (heard a epoch s) a ↔ Room s a := by
  simp only [Room, heard_port]

theorem heard_judged (epoch epoch' : Epoch) (k : Option ReqKind) :
    judged ((heard a epoch s).session a) k epoch' = judged (s.session a) k epoch' := by
  obtain ⟨due, hsession⟩ := heard_session a epoch s
  simp only [judged, hsession]

theorem exec_request_of_readFrame {frame : List Byte} (hreset : s.resetN = true) (hup : (s.port a).linkUp = true)
    (hread : readFrame frame = some (.request x)) :
    exec (.request a frame) s = .next ((heard a x.epoch s).arriveRequest a x) := by
  rw [exec_request_eq, State.receive_of_readFrame hreset hup hread, State.arrive, State.frameReport_eq_heard]

/-! ### One branch of the arrival checks each -/

theorem State.arriveRequest_of_replay {r : Result} (h : s.replayOf a x = some r) :
    (Room s a → s.arriveRequest a x = counted (.agent a .replays) (appended a x r s)) ∧
      (¬ Room s a → s.arriveRequest a x = counted (.agent a .framesDiscarded) s) := by
  simp only [State.arriveRequest, h]
  constructor
  · intro hroom
    rw [State.answerArrival_of_room r hroom, if_pos rfl, State.count_eq_counted]
  · intro hfull
    rw [State.answerArrival_of_full r hfull]
    exact if_neg Bool.false_ne_true

theorem State.arriveRequest_of_duplicate (hnone : ∀ e, ¬ Replays s a x e) (hdup : Duplicate s a x) :
    s.arriveRequest a x = counted (.agent a .framesDiscarded) s := by
  simp only [State.arriveRequest, State.replayOf_of_no_replay hnone, (Port.holdsTag_iff s a x).mpr hdup, if_true,
    State.count_eq_counted]

section
variable (hnone : ∀ e, ¬ Replays s a x e) (hfresh : ¬ Duplicate s a x)
include hnone hfresh

theorem State.arriveRequest_of_judged {r : Result} (hjudged : judged (s.session a) (ReqKind.ofCode x.kind) x.epoch = some r) :
    s.arriveRequest a x = answeredOnArrival a x r s := by
  simp only [State.arriveRequest, State.replayOf_of_no_replay hnone, if_neg (mt (Port.holdsTag_iff s a x).mp hfresh),
    judgeArrival_eq_judged, hjudged, State.answerArrival_eq]

theorem State.arriveRequest_of_malformed (hpassed : judged (s.session a) (ReqKind.ofCode x.kind) x.epoch = none)
    (hbad : Malformed x) : s.arriveRequest a x = answeredOnArrival a x .badRequest s := by
  simp only [State.arriveRequest, State.replayOf_of_no_replay hnone, if_neg (mt (Port.holdsTag_iff s a x).mp hfresh),
    judgeArrival_eq_judged, hpassed, (RawRequest.parse_eq_none_iff x).mpr hbad, State.answerArrival_eq]

theorem State.arriveRequest_of_well_formed {q : Request}
    (hpassed : judged (s.session a) (ReqKind.ofCode x.kind) x.epoch = none) (hparse : x.parse = some q) :
    s.arriveRequest a x =
      if (s.port a).inbound.length < 16 then
        s.putPort a { s.port a with inbound := (s.port a).inbound ++ [q] }
      else answeredOnArrival a x .busy s := by
  simp only [State.arriveRequest, State.replayOf_of_no_replay hnone, if_neg (mt (Port.holdsTag_iff s a x).mp hfresh),
    judgeArrival_eq_judged, hpassed, hparse, State.answerArrival_eq, Config.inboundSize]

end

end

/-! ### The statements -/

/-- Settles O39: the cache by whether the tag is in it; the request by whether an entry matches. -/
theorem requestIsReplayedOrDiscardedAsADuplicate : Obligations.RequestIsReplayedOrDiscardedAsADuplicate := by
  refine ⟨fun e cache hlength => ⟨enterCache_of_tag_known hlength, fun hnew => ⟨fun hroom => ?_, fun hfull => ?_⟩,
    enterCache_length_le e cache hlength⟩, fun s a frame x t hreset hup hread ht => ⟨fun e hnodup hreplay => ?_,
    fun hnone hdup => ?_⟩⟩
  · rw [enterCache_of_tag_new hnew, if_neg (by omega)]
  · rw [enterCache_of_tag_new hnew, if_pos (by omega)]
  · rw [exec_request_of_readFrame hreset hup hread, ← ht]
    have hanswer : t.replayOf a x = some e.result := by
      rw [ht]
      exact State.replayOf_of_replays (by rwa [heard_port]) ((heard_replays x.epoch e).mpr hreplay)
    obtain ⟨hjoins, hdrops⟩ := State.arriveRequest_of_replay hanswer
    refine ⟨fun hroom => ?_, fun hfull => ?_⟩
    · rw [hjoins (by rw [ht]; exact (heard_room x.epoch).mpr hroom)]
    · rw [hdrops (by rw [ht]; exact mt (heard_room x.epoch).mp hfull)]
  · rw [exec_request_of_readFrame hreset hup hread, ht,
      State.arriveRequest_of_duplicate (fun e => mt (heard_replays x.epoch e).mp (hnone e))
        ((heard_duplicate x.epoch).mpr hdup)]

/-- Settles O40: one branch of the arrival checks for each clause. -/
theorem requestIsRefusedOrJoinsTheInboundQueue : Obligations.RequestIsRefusedOrJoinsTheInboundQueue := by
  intro s a frame x t hreset hup hread ht hnone hfresh
  rw [exec_request_of_readFrame hreset hup hread, ← ht]
  have hnone' : ∀ e, ¬ Replays t a x e := fun e => by
    rw [ht]
    exact mt (heard_replays x.epoch e).mp (hnone e)
  have hfresh' : ¬ Duplicate t a x := by
    rw [ht]
    exact mt (heard_duplicate x.epoch).mp hfresh
  have hjudged : judged (t.session a) (ReqKind.ofCode x.kind) x.epoch =
      judged (s.session a) (ReqKind.ofCode x.kind) x.epoch := by rw [ht, heard_judged]
  have hport : t.port a = s.port a := by rw [ht, heard_port]
  have hports : t.ports = s.ports := by
    rw [ht, heard]
    split <;> rfl
  refine ⟨fun r hr => ?_, fun hpassed hbad => ?_, fun q hpassed hparse => ?_⟩
  · rw [State.arriveRequest_of_judged hnone' hfresh' (hjudged.trans hr)]
  · rw [State.arriveRequest_of_malformed hnone' hfresh' (hjudged.trans hpassed) hbad]
  · rw [State.arriveRequest_of_well_formed hnone' hfresh' (hjudged.trans hpassed) hparse, hport]
    refine ⟨fun hfull => ?_, fun hroom => ?_⟩
    · rw [if_neg (by omega)]
    · rw [if_pos hroom, State.putPort, hports]

/-- Settles O41: the transmitter by its link and its frame, then by the digest place and the list. -/
theorem transmitterSendsTheDigestFirst : Obligations.TransmitterSendsTheDigestFirst := by
  intro s a hreset
  have hrun : exec (.transmitFrame a) s = .next (s.transmit a) := by
    change Host.Outcome.next (if s.resetN then s.transmit a else s) = _
    rw [if_pos hreset]
  rw [hrun]
  refine ⟨fun hup hidle => ⟨fun d hd => ?_, fun r rest hd hout => ?_, fun hd hout => ?_⟩, fun hbusy => ?_, ?_⟩
  · simp only [State.transmit, if_pos (And.intro hup hidle), hd]
    rfl
  · simp only [State.transmit, if_pos (And.intro hup hidle), hd, hout]
    rfl
  · simp only [State.transmit, if_pos (And.intro hup hidle), hd, hout]
  · have hnot : ¬ ((s.port a).linkUp = true ∧ (s.port a).transmitting = none) := by
      rintro ⟨hup, hidle⟩
      rcases hbusy with hdown | hsending
      · rw [hup] at hdown; cases hdown
      · exact hsending hidle
    simp only [State.transmit, if_neg hnot]
  · change Host.Outcome.next (if s.resetN then s.putPort a { s.port a with transmitting := none } else s) = _
    rw [if_pos hreset]
    rfl

end Sys2Proof.Machine
end

section
/-! SUPPORT. Writes to the command register and to the configuration registers, and the commands of the management turn
that inspect a slot and reset the directory, with the statements on them (R18, R63, R152, R163 to R169). -/

namespace Sys2Proof.Machine

open Sys2Proof.Expect

/-! ### Writes to CMD (R165, R166) -/

section
variable {s : State}

theorem State.raise_commandRefused (s : State) : s.raise .commandRefused = flagged 4 s := rfl

theorem State.raise_configReject (s : State) : s.raise .configReject = flagged 3 s := rfl

theorem State.writeCommand_of_busy (value : Word) (hbusy : s.mgmt.busy ≠ none) :
    s.writeCommand value = flagged 4 s := by
  rw [State.writeCommand, if_pos (Option.isSome_iff_ne_none.mpr hbusy), State.raise_commandRefused]

theorem State.writeCommand_of_idle (value : Word) (hidle : s.mgmt.busy = none) :
    s.writeCommand value =
      match CommandName.ofCode (value.setWidth 8) with
      | none => rejected .badCommand (issued (value.setWidth 8) s)
      | some .enableDirectory => (issued (value.setWidth 8) s).enable
      | some .loadTokenFloor => (issued (value.setWidth 8) s).loadFloor (s.mgmt.arg1 ++ s.mgmt.arg0)
      | some .evictAgent => (issued (value.setWidth 8) s).evict s.mgmt.arg0
      | some (.arbiter c) =>
        { issued (value.setWidth 8) s with
          mgmt :=
            { (issued (value.setWidth 8) s).mgmt with
              busy := some { command := c, arg0 := s.mgmt.arg0, arg1 := s.mgmt.arg1 } } } := by
  rw [State.writeCommand, if_neg (by simp [hidle])]
  rfl

/-- Each command that is a write to CMD writes its value there. -/
theorem exec_commandWrites (hreset : s.resetN = true) {upper : BitVec 24} {value : Word} {c : ArbiterCommand} {i : Instr}
    (hi : i ∈ commandWrites upper value c) : ∃ w, exec i s = .next (s.writeCommand w) := by
  have hwrite (w : Word) : Host.Outcome.next (if s.resetN then s.writeCommand w else s) =
      (.next (s.writeCommand w) : Host.Outcome State Fault Refusal) := by rw [if_pos hreset]
  simp only [commandWrites, List.mem_cons, List.not_mem_nil, or_false] at hi
  rcases hi with rfl | rfl | rfl | rfl | rfl | rfl <;> exact ⟨_, hwrite _⟩

theorem CommandName.ofCode_eq_none {code : Byte} (h : code ∉ [0x01#8, 0x02, 0x03, 0x10, 0x11, 0x12, 0x1F]) :
    CommandName.ofCode code = none := by
  simp only [List.mem_cons, List.not_mem_nil, or_false, not_or] at h
  obtain ⟨(h1 : ¬ code = 1), h2, h3, h4, h5, h6, h7⟩ := h
  simp only [CommandName.ofCode, if_neg h1, if_neg h2, if_neg h3, if_neg h4, if_neg h5, if_neg h6, if_neg h7]

theorem arbiterCode_eq_codeOf (c : ArbiterCommand) : arbiterCode c = codeOf c := by cases c <;> rfl

theorem exec_badCommand_of_resetN (hreset : s.resetN = true) (value : Word) :
    exec (.badCommand value) s = .next (s.writeCommand value) := by
  change Host.Outcome.next (if s.resetN then s.writeCommand value else s) = _
  rw [if_pos hreset]

theorem exec_arbiterCommandIssue_of_resetN (hreset : s.resetN = true) (c : ArbiterCommand) (upper : BitVec 24) :
    exec (.arbiterCommandIssue c upper) s = .next (s.writeCommand (upper ++ codeOf c)) := by
  change Host.Outcome.next (if s.resetN then s.writeCommand (upper ++ arbiterCode c) else s) = _
  rw [if_pos hreset, arbiterCode_eq_codeOf]

end

/-- Settles O43: lost while BUSY, and otherwise by what the code names. -/
theorem commandWritesAreLostRefusedOrIssued : Obligations.CommandWritesAreLostRefusedOrIssued := by
  intro s upper value c hreset
  refine ⟨fun hbusy i hi => ?lost, fun hidle => ⟨fun hunknown => ?refused, _, rfl, ?issued⟩⟩
  case lost =>
    obtain ⟨w, hw⟩ := exec_commandWrites hreset hi
    rw [hw, State.writeCommand_of_busy w hbusy]
  case refused =>
    rw [exec_badCommand_of_resetN hreset, State.writeCommand_of_idle value hidle]
    simp only [CommandName.ofCode_eq_none hunknown]
  case issued =>
    have hcode : CommandName.ofCode (codeOf c) = some (.arbiter c) := by
      rw [← arbiterCode_eq_codeOf]
      exact CommandName.ofCode_code (.arbiter c)
    rw [exec_arbiterCommandIssue_of_resetN hreset, State.writeCommand_of_idle _ hidle]
    simp only [setWidth_append_code, hcode]

/-! ### Configuration (R163) -/

section
variable {s : State} {r r' : ConfigReg}

@[simp] theorem ConfigValues.get_put_self (c : ConfigValues) (r : ConfigReg) (w : Word) : (c.put r w).get r = w := by
  cases r with
  | membershipQuota a | waitQuota a => exact Per.get_put_self _ a w
  | _ => rfl

/-- Two configuration values differ in their kind or in their agent. -/
theorem ConfigValues.get_put_of_ne (c : ConfigValues) (w : Word) (h : r' ≠ r) : (c.put r w).get r' = c.get r' := by
  cases r with
  | membershipQuota a =>
    cases r' with
    | membershipQuota b => exact Per.get_put_of_ne _ _ fun hb => h (congrArg _ hb)
    | _ => rfl
  | waitQuota a =>
    cases r' with
    | waitQuota b => exact Per.get_put_of_ne _ _ fun hb => h (congrArg _ hb)
    | _ => rfl
  | grace | lapse | countThreshold | holdTime | retransmitInterval | retransmitLimit =>
    cases r' <;> first | rfl | exact absurd rfl h

@[simp] theorem State.readRegister_configAddress (s : State) (r : ConfigReg) :
    s.readRegister (configAddress r) = s.mgmt.config.get r := by
  simp only [State.readRegister, configAt_configAddress]

theorem configInRange_iff (r : ConfigReg) (value : Word) :
    configInRange r value = true ↔ (range r).1 ≤ value.toNat ∧ value.toNat ≤ (range r).2 := by
  have hrange : configRange r = range r := by cases r <;> rfl
  rw [configInRange, hrange, Bool.and_eq_true, decide_eq_true_iff, decide_eq_true_iff]

theorem exec_configurationWrite_of_resetN (hreset : s.resetN = true) (r : ConfigReg) (value : Word) :
    exec (.configurationWrite r value) s = .next (s.writeConfig r value) := by
  change Host.Outcome.next (if s.resetN then s.writeConfig r value else s) = _
  rw [if_pos hreset]

end

/-- Settles O44: by the range; each configuration register's address reads its value. -/
theorem configurationWriteIsRangeChecked : Obligations.ConfigurationWriteIsRangeChecked := by
  intro s r value hreset
  rw [exec_configurationWrite_of_resetN hreset]
  refine ⟨fun hin => ⟨s.mgmt.config.put r value, ?_, ?_, fun r' hr' => ?_⟩, fun hout => ?_⟩
  · rw [State.writeConfig, if_pos ((configInRange_iff r value).mpr hin)]
  · rw [State.readRegister_configAddress, ConfigValues.get_put_self]
  · rw [State.readRegister_configAddress, State.readRegister_configAddress, ConfigValues.get_put_of_ne _ _ hr']
  · have hnot : ¬ configInRange r value = true := by
      rw [configInRange_iff]
      omega
    rw [State.writeConfig, if_neg hnot, State.raise_configReject]

/-! ### INSPECT_RECORD (R63, R64, R152) -/

section
variable {s : State} {h i : Nat} {r : Record} {c : IssuedCommand}

theorem State.putWindow_eq_windowed (w : Window) (s : State) : s.putWindow w = windowed w s := rfl

theorem Window.ofSlot_eq_shownOnly (h : Nat) (slot : WindowSlot) (cleaned : Bool) :
    Window.ofSlot h slot cleaned = shownOnly h slot cleaned := rfl

theorem State.inspectRemaining_eq (s : State) (i : Nat) :
    s.inspectRemaining i =
      ((s.deadlines.list.find? (fun e => decide (e.index = i))).map (fun e => (e.due - s.clock.ms).toNat - 1)).getD 0 := by
  rw [State.inspectRemaining]
  cases s.deadlines.list.find? (fun e => decide (e.index = i)) <;> rfl

theorem State.windowMember_eq (s : State) (i : Nat) : s.windowMember i = (s.member i).map (shownMember s i) := by
  simp only [State.windowMember, State.inspectRemaining_eq]
  cases s.member i <;> rfl

theorem State.windowOf_eq_shown (s : State) (h : Nat) (r : Record) : s.windowOf h r = shown s h r := by
  simp only [State.windowOf, shown, funext (State.windowMember_eq s)]

theorem inspectSlot_of_free (hslot : s.slot h = none) : inspectSlot h s = done 0 (windowed (shownOnly h .free false) s) := by
  simp only [inspectSlot, hslot]
  rfl

theorem inspectSlot_of_quarantined {cleaned : Bool} (hslot : s.slot h = some (.quarantined cleaned r)) :
    inspectSlot h s = done 0 (windowed (shownOnly h .quarantined cleaned) s) := by
  simp only [inspectSlot, hslot]
  rfl

theorem inspectSlot_of_sound (hslot : s.slot h = some (.live r)) (hv : s.verify r = .sound) :
    inspectSlot h s = done 0 (windowed (shown s h r) s) := by
  simp only [inspectSlot, hslot, hv, State.windowOf_eq_shown]
  rfl

theorem inspectSlot_of_recordFault (hslot : s.slot h = some (.live r)) (hv : s.verify r = .recordFault) :
    inspectSlot h s = rejected .recordFault (windowed (shownOnly h .quarantined false) (quarantined h r s)) := by
  simp only [inspectSlot, hslot, hv, State.quarantine_eq_quarantined]
  rfl

theorem inspectSlot_of_memberFault (hslot : s.slot h = some (.live r)) (hv : s.verify r = .memberFault) :
    inspectSlot h s = rejected .membershipFault (windowed (shownOnly h .live false) (halted .membershipFault s)) := by
  simp only [inspectSlot, hslot, hv, State.memberFault_eq_halted]
  rfl

theorem exec_inspectRecord_of_turn (hturn : ManagementTurn s c) (hcommand : c.command = .inspectRecord) :
    exec .inspectRecord s = .next (ended (onHandle c inspectSlot (begun .management s))) := by
  have hmanaged := State.managementTurn_of_turn hturn (fun c => onHandle c inspectSlot)
  rw [hcommand] at hmanaged
  exact congrArg _ hmanaged

end

/-- Settles O48: the checks of the handle and of the halt, and behind them one branch of `inspectSlot` for each state of the
slot. -/
theorem inspectRecordWritesTheWindow : Obligations.InspectRecordWritesTheWindow := by
  intro s c h u hturn hcommand hh hu
  subst hh hu
  rw [exec_inspectRecord_of_turn hturn hcommand]
  refine ⟨fun hbad => ?_, fun hgood hhalt => ?_, fun hgood hhalt => ?_⟩
  · rw [onHandle_of_bad_handle hbad]
  · rw [onHandle_of_halted hgood (by rwa [begun_dir_state])]
  · rw [onHandle_of_good hgood (by rwa [begun_dir_state])]
    refine ⟨fun hslot => ?_, fun cleaned r hslot => ?_, fun r hslot => ⟨fun hv => ?_, fun hv => ?_, fun hv => ?_⟩⟩
    · rw [inspectSlot_of_free hslot]
    · rw [inspectSlot_of_quarantined hslot]
    · rw [inspectSlot_of_sound hslot hv]
    · rw [inspectSlot_of_recordFault hslot hv]
    · rw [inspectSlot_of_memberFault hslot hv]

/-! ### RESET_DIRECTORY (R18, R169) -/

theorem exec_resetDirectory_of_turn {s : State} {c : IssuedCommand} (hturn : ManagementTurn s c)
    (hcommand : c.command = .resetDirectory) :
    exec .resetDirectory s = .next (ended (begun .management s).resetDirectory) := by
  have hmanaged := State.managementTurn_of_turn hturn (fun _ => State.resetDirectory)
  rw [hcommand] at hmanaged
  exact congrArg _ hmanaged

/-- Settles O50: the reset, item by item; the upset that precedes it reaches only the tables that it empties. -/
theorem resetDirectoryClosesEverything : Obligations.ResetDirectoryClosesEverything := by
  intro s c hturn hcommand
  have hbegun : begun .management s =
      { s with
        dir := { s.dir with slots := s.sufferUpset.dir.slots, pool := s.sufferUpset.dir.pool }
        upsets := s.sufferUpset.upsets, arbiter := { lastServed := .management, operation := some .management } } := by
    rw [begun, State.sufferUpset_eq]
  refine ⟨_, exec_resetDirectory_of_turn hturn hcommand, rfl, rfl, fun _ => rfl, fun _ => rfl, fun a => ?_, ?_, rfl, ?_,
    rfl, rfl, fun a => ?_, fun a => ?_, fun a => ?_, ?_, ?_, ?_, ?_⟩
  · exact Per.get_replicate _ a
  · rw [hbegun]; rfl
  · rw [hbegun]; rfl
  · rw [hbegun]; exact Per.get_map _ _ a
  · exact Per.get_replicate _ a
  · rw [hbegun]; exact Per.get_map _ _ a
  · rw [hbegun]; rfl
  · rw [hbegun]; exact hturn.1
  · rw [hbegun]; rfl
  · rw [hbegun]; rfl

end Sys2Proof.Machine
end

section
/-! SUPPORT. What stands at each address of the management window, and the statement on the registers (R157 to R162, R171,
R176, Tables 11-10 to 11-12). -/

namespace Sys2Proof.Machine

open Sys2Proof.Expect

/-! ### Fields (Table 11-10) -/

/-- A field of `n + 1` bits takes the bits from `lo` to `lo + n`. -/
theorem field_eq_inBits (n lo value : Nat) : field (n + 1) lo value = inBits (lo + n) lo value := by
  have hword : (BitVec.ofNat (n + 1) value).setWidth 32 = BitVec.ofNat 32 (value % 2 ^ (n + 1)) := by
    apply BitVec.eq_of_toNat_eq
    rw [BitVec.toNat_setWidth, BitVec.toNat_ofNat, BitVec.toNat_ofNat]
  rw [field, inBits, hword, show lo + n + 1 - lo = n + 1 by omega]

theorem bitField_eq_inBit (lo : Nat) (b : Bool) : bitField lo b = inBit lo b := field_eq_inBits 0 lo b.toNat

/-! ### The codes (R176) are those of the tables -/

theorem DirectoryState.field_eq (x : DirectoryState) : x.field = directoryField x := by cases x <;> rfl

theorem HaltCause.field_eq (x : Option HaltCause) : HaltCause.field x = haltField x := by rcases x with _ | _ | _ <;> rfl

theorem SessionState.field_eq (x : SessionState) : x.field = sessionField x := by cases x <;> rfl

theorem SuspectCause.field_eq (x : Option SuspectCause) : SuspectCause.field x = suspectField x := by
  rcases x with _ | _ | _ | _ <;> rfl

theorem RetireCause.field_eq (x : Option RetireCause) : RetireCause.field x = retireField x := by
  rcases x with _ | _ | _ | _ <;> rfl

theorem ModeratorState.field_eq (x : ModeratorState) : x.field = moderatorField x := by cases x <;> rfl

theorem OverflowMark.field_eq (x : OverflowMark) : x.field = overflowField x := by cases x <;> rfl

theorem WindowSlot.field_eq (x : WindowSlot) : x.field = slotField x := by cases x <;> rfl

theorem Mode.field_eq (x : Option Mode) : Mode.field x = modeField x := by rcases x with _ | _ | _ <;> rfl

theorem CommandOutcome.field_eq (x : CommandOutcome) : x.field = outcomeField x := by cases x <;> rfl

theorem Reason.field_eq (x : Option Reason) : Reason.field x = reasonField x := by
  rcases x with _ | x
  · rfl
  · cases x <;> rfl

/-! ### Which register stands at an address -/

section
variable {address : BitVec 16} {a : AgentId} {o : Nat} {s : State}

theorem agentBlock_eq_some (h : agentBlock address = some (a, o)) : address = agentAddress a o ∧ o < 256 := by
  simp only [agentBlock] at h
  split at h
  · next hn =>
    simp only [Option.some.injEq, Prod.mk.injEq] at h
    obtain ⟨ha, ho⟩ := h
    have hval : address.toNat / 256 - 2 = a.val := congrArg Fin.val ha
    refine ⟨BitVec.eq_of_toNat_eq ?_, by omega⟩
    rw [agentAddress, BitVec.toNat_ofNat]
    omega
  · cases h

theorem configAt_eq_some {r : ConfigReg} (h : configAt address = some r) : address = configAddress r := by
  simp only [configAt] at h
  split at h
  · next hblock => cases h; exact (agentBlock_eq_some hblock).1
  · next hblock => cases h; exact (agentBlock_eq_some hblock).1
  · repeat' split at h
    all_goals first | (cases h; assumption) | cases h

theorem statAt_eq_some {r : StatReg} (h : statAt address = some r) : address = statAddress r := by
  simp only [statAt] at h
  split at h
  · next haddress => cases h; exact haddress
  · split at h
    · next b o hblock =>
      obtain ⟨k, hfind, rfl⟩ := Option.map_eq_some_iff.mp h
      have hoffset : statOffset k = o := of_decide_eq_true (List.find?_some (p := fun k => decide (statOffset k = o)) hfind)
      rw [(agentBlock_eq_some hblock).1, ← hoffset]
      rfl
    · cases h

/-- A configuration register of an agent stands in its block, and the others in none. -/
theorem agentBlock_configAddress (r : ConfigReg) :
    agentBlock (configAddress r) = none ∨ ∃ a, agentBlock (configAddress r) = some (a, 0x20) ∨
      agentBlock (configAddress r) = some (a, 0x24) := by
  cases r with
  | membershipQuota a => exact .inr ⟨a, .inl (agentBlock_agentAddress a (by omega))⟩
  | waitQuota a => exact .inr ⟨a, .inr (agentBlock_agentAddress a (by omega))⟩
  | _ => exact .inl (agentBlock_of_lt (by decide))

theorem agentBlock_statAddress (r : StatReg) :
    agentBlock (statAddress r) = none ∨ ∃ a k, agentBlock (statAddress r) = some (a, statOffset k) := by
  cases r with
  | quarantines => exact .inl (agentBlock_of_lt (by decide))
  | agent a k => exact .inr ⟨a, k, agentBlock_agentAddress a (by have := statOffset_bounds k; omega)⟩

/-- The first 32 bytes of an agent's block hold its status registers. -/
theorem State.readRegister_status (s : State) (a : AgentId) {o : Nat} (ho : o < 0x20) :
    s.readRegister (agentAddress a o) = s.readAgentStatus a o := by
  have hblock := agentBlock_agentAddress a (o := o) (by omega)
  have hconfig : configAt (agentAddress a o) = none := by
    cases hc : configAt (agentAddress a o) with
    | none => rfl
    | some r =>
      rw [configAt_eq_some hc] at hblock
      rcases agentBlock_configAddress r with hr | ⟨b, hr | hr⟩ <;> rw [hr] at hblock <;> cases hblock <;> omega
  have hstat : statAt (agentAddress a o) = none := by
    cases hc : statAt (agentAddress a o) with
    | none => rfl
    | some r =>
      rw [statAt_eq_some hc] at hblock
      rcases agentBlock_statAddress r with hr | ⟨b, k, hr⟩ <;> rw [hr] at hblock <;> cases hblock
      have := statOffset_bounds k
      omega
  simp only [State.readRegister, hconfig, hstat, hblock]

/-- The member entries of the inspection window stand below the agents' blocks. -/
theorem State.readRegister_member (s : State) {n : Nat} (hlow : 0xA0 ≤ n) (hhigh : n < 0x200) :
    s.readRegister (BitVec.ofNat 16 n) = s.mgmt.window.readMember n := by
  have hn : (BitVec.ofNat 16 n).toNat = n := by
    rw [BitVec.toNat_ofNat]
    omega
  have hblock : agentBlock (BitVec.ofNat 16 n) = none := agentBlock_of_lt (by omega)
  have hconfig : configAt (BitVec.ofNat 16 n) = none := by
    cases hc : configAt (BitVec.ofNat 16 n) with
    | none => rfl
    | some r =>
      have hval := congrArg BitVec.toNat (configAt_eq_some hc)
      rw [hn] at hval
      rcases r with _ | _ | _ | _ | _ | _ | b | b
      case membershipQuota | waitQuota => simp [configAddress, agentAddress] at hval; omega
      all_goals simp [configAddress] at hval; omega
  have hstat : statAt (BitVec.ofNat 16 n) = none := by
    cases hc : statAt (BitVec.ofNat 16 n) with
    | none => rfl
    | some r =>
      have hval := congrArg BitVec.toNat (statAt_eq_some hc)
      rw [hn] at hval
      rcases r with _ | ⟨b, k⟩
      · simp [statAddress] at hval; omega
      · have := statOffset_bounds k
        simp [statAddress, agentAddress] at hval
        omega
  have hne (x : BitVec 16) (hx : x.toNat < 0xA0) : BitVec.ofNat 16 n ≠ x := fun he => by
    rw [← he, hn] at hx
    omega
  simp only [State.readRegister, hconfig, hstat, hblock, State.readDevice, hn, if_pos hlow]
  repeat rw [if_neg (hne _ (by decide))]

end

/-! ### What the registers read -/

section
variable (s : State)

theorem State.sweepCounts_eq : s.teardownCount = s.sweep.countP (fun j => !isCleanup j) ∧
    s.cleanupCount = s.sweep.countP isCleanup :=
  ⟨List.countP_congr fun j _ => by cases j <;> rfl, s.cleanupCount_eq_countP⟩

theorem sweepHead_eq (l : List SweepJob) : sweepHead l = inBits 9 8 (headFields l).1 ||| inBits 27 16 (headFields l).2 := by
  rcases l with _ | ⟨j, l⟩
  · rfl
  · cases j <;> simp only [sweepHead, headFields, field_eq_inBits, Nat.reduceAdd]

theorem State.deviceReads : DeviceReads s := by
  refine ⟨?dirstat, rfl, rfl, ?dlcount, ?swpstat, rfl, rfl, rfl, rfl, rfl, rfl, rfl, rfl, rfl, rfl, rfl, rfl, ?cmdres⟩
  case dirstat =>
    change s.readDirstat = _
    simp only [State.readDirstat, field_eq_inBits, DirectoryState.field_eq, HaltCause.field_eq, Nat.reduceAdd,
      Nat.zero_add]
  case dlcount =>
    change s.readDlcount = _
    simp only [State.readDlcount, field_eq_inBits, Nat.reduceAdd, Nat.zero_add]
  case swpstat =>
    change s.readSwpstat = _
    simp only [State.readSwpstat, field_eq_inBits, sweepHead_eq, s.sweepCounts_eq.1, s.sweepCounts_eq.2,
      BitVec.or_assoc, Nat.reduceAdd, Nat.zero_add]
  case cmdres =>
    change s.mgmt.readCmdres = _
    simp only [Management.readCmdres, field_eq_inBits, bitField_eq_inBit, CommandOutcome.field_eq, Reason.field_eq,
      Nat.reduceAdd, Nat.zero_add]

theorem WindowMember.readWord_eq (m : WindowMember) (offset : Nat) : m.readWord offset = memberWord m offset := by
  simp only [WindowMember.readWord, memberWord, bitField_eq_inBit, field_eq_inBits,
    field_eq_inBits, field_eq_inBits,
    field_eq_inBits, field_eq_inBits, Mode.field_eq, low32, high32]

theorem Window.readMember_entry (w : Window) {m offset : Nat} (hm : m < 8) (hoffset : offset < 0x20) :
    w.readMember (0x00A0 + 0x20 * m + offset) = (w.members[m]?.map (memberWord · offset)).getD 0 := by
  have hentry : (0x00A0 + 0x20 * m + offset - 0xA0) / 0x20 = m := by omega
  have hword : (0x00A0 + 0x20 * m + offset - 0xA0) % 0x20 = offset := by omega
  simp only [Window.readMember, hentry, hword, if_pos hm]
  cases w.members[m]? with
  | none => rfl
  | some x => exact x.readWord_eq offset

theorem Window.readMember_beyond (w : Window) {n : Nat} (hn : 0x1A0 ≤ n) : w.readMember n = 0 := by
  simp only [Window.readMember, if_neg (show ¬ (n - 0xA0) / 0x20 < 8 by omega)]
  split <;> rfl

theorem State.windowReads : WindowReads s s.mgmt.window := by
  refine ⟨?status, ?record, rfl, rfl, fun m offset hm hoffset => ?member⟩
  case status =>
    change s.mgmt.window.readStatus = _
    simp only [Window.readStatus, bitField_eq_inBit, field_eq_inBits, WindowSlot.field_eq, Nat.reduceAdd]
  case record =>
    change s.mgmt.window.readRecord = _
    simp only [Window.readRecord, field_eq_inBits, bitField_eq_inBit, Mode.field_eq, Nat.reduceAdd, Nat.zero_add]
  case member =>
    rw [s.readRegister_member (by omega) (by omega), Window.readMember_entry _ hm hoffset]
    cases s.mgmt.window.members[m]? <;> rfl

theorem State.agentReads (a : AgentId) :
    AgentReads s a (fun offset => s.readRegister (BitVec.ofNat 16 (0x0200 + 0x0100 * a.val + offset))) := by
  have hstatus {o : Nat} (ho : o < 0x20) :
      s.readRegister (BitVec.ofNat 16 (0x0200 + 0x0100 * a.val + o)) = s.readAgentStatus a o := s.readRegister_status a ho
  have hstat (k : AgentStat) : s.readRegister (BitVec.ofNat 16 (0x0200 + 0x0100 * a.val + statOffset k)) =
      (Per.get s.mgmt.stats a).get k := s.readRegister_statAddress (.agent a k)
  refine ⟨?session, ?counts, ?upgrades, hstatus (by omega), ?moderator, ?moderatorCounts, ?port,
    s.readRegister_configAddress (.membershipQuota a), s.readRegister_configAddress (.waitQuota a),
    hstat .requestsTaken, hstat .grants, hstat .waitsAdmitted, hstat .waitExpiries, hstat .digestsSent,
    hstat .retransmissions, hstat .acksIgnored, hstat .framesDiscarded, hstat .replays, hstat .linkDowns⟩
  case session =>
    refine (hstatus (by omega)).trans ?_
    change (s.session a).read = _
    simp only [Session.read, field_eq_inBits, SessionState.field_eq, SuspectCause.field_eq, RetireCause.field_eq,
      Nat.reduceAdd, Nat.zero_add]
  case counts =>
    refine (hstatus (by omega)).trans ?_
    change field 14 0 (s.counts a).holds ||| field 14 16 (s.counts a).waits = _
    simp only [field_eq_inBits, Nat.reduceAdd, Nat.zero_add]
  case upgrades =>
    refine (hstatus (by omega)).trans ?_
    change field 14 0 (s.counts a).upgrades = _
    simp only [field_eq_inBits, Nat.zero_add]
  case moderator =>
    refine (hstatus (by omega)).trans ?_
    change (s.moderator a).readStatus = _
    simp only [Moderator.readStatus, field_eq_inBits, bitField_eq_inBit, ModeratorState.field_eq,
      OverflowMark.field_eq, Nat.reduceAdd, Nat.zero_add]
  case moderatorCounts =>
    refine (hstatus (by omega)).trans ?_
    change (s.moderator a).readCounts = _
    simp only [Moderator.readCounts, field_eq_inBits, Moderator.inFlightCount, Nat.reduceAdd, Nat.zero_add]
    cases (s.moderator a).inFlight <;> rfl
  case port =>
    refine (hstatus (by omega)).trans ?_
    change (s.port a).read = _
    simp only [Port.read, bitField_eq_inBit, field_eq_inBits, Port.outboundCount, Nat.reduceAdd]
    cases (s.port a).reserved <;> rfl

/-! ### Addresses that the map does not assign -/

theorem configAddress_assigned (r : ConfigReg) : Assigned (configAddress r).toNat := by
  cases r with
  | membershipQuota a | waitQuota a =>
    have ha := a.isLt
    refine .inr (.inr ?_)
    simp only [configAddress, agentAddress, BitVec.toNat_ofNat, List.mem_cons]
    omega
  | _ => exact .inl (by decide)

theorem statAddress_assigned (r : StatReg) : Assigned (statAddress r).toNat := by
  cases r with
  | quarantines => exact .inl (by decide)
  | agent a k =>
    have ha := a.isLt
    refine .inr (.inr ?_)
    cases k <;> simp only [statAddress, statOffset, agentAddress, BitVec.toNat_ofNat, List.mem_cons] <;> omega

theorem configAt_of_unassigned {address : BitVec 16} (h : ¬ Assigned address.toNat) : configAt address = none := by
  cases hc : configAt address with
  | none => rfl
  | some r => exact absurd (configAt_eq_some hc ▸ configAddress_assigned r) h

theorem statAt_of_unassigned {address : BitVec 16} (h : ¬ Assigned address.toNat) : statAt address = none := by
  cases hc : statAt address with
  | none => rfl
  | some r => exact absurd (statAt_eq_some hc ▸ statAddress_assigned r) h

theorem State.readAgentStatus_of_unassigned (a : AgentId) {o : Nat} (ho : o < 256)
    (h : ¬ Assigned (agentAddress a o).toNat) : s.readAgentStatus a o = 0 := by
  have ha := a.isLt
  have hoffset : ¬ o ∈ [0x00, 0x04, 0x08, 0x0C, 0x10, 0x14, 0x18, 0x20, 0x24, 0x40, 0x44, 0x48, 0x4C, 0x50, 0x54, 0x58,
      0x5C, 0x60, 0x64] := by
    intro hmem
    refine h (.inr (.inr ?_))
    have hval : (agentAddress a o).toNat = 0x200 + 0x100 * a.val + o := by
      rw [agentAddress, BitVec.toNat_ofNat]
      omega
    rw [hval, show (0x200 + 0x100 * a.val + o) % 0x100 = o by omega]
    exact ⟨by omega, by omega, hmem⟩
  simp only [List.mem_cons, List.not_mem_nil, or_false, not_or] at hoffset
  obtain ⟨h00, h04, h08, h0C, h10, h14, h18, -⟩ := hoffset
  simp only [State.readAgentStatus, if_neg h00, if_neg h04, if_neg h08, if_neg h0C, if_neg h10, if_neg h14, if_neg h18]

theorem State.readDevice_of_unassigned {address : BitVec 16} (h : ¬ Assigned address.toNat) : s.readDevice address = 0 := by
  have hne (x : BitVec 16) (hx : Assigned x.toNat) : address ≠ x := fun he => h (he ▸ hx)
  simp only [State.readDevice]
  repeat rw [if_neg (hne _ (.inl (by decide)))]
  split
  · next hlow =>
    exact Window.readMember_beyond _ (Nat.not_lt.mp fun hhigh => h (.inr (.inl ⟨hlow, hhigh⟩)))
  · rfl

theorem State.readRegister_of_unassigned {address : BitVec 16} (h : ¬ Assigned address.toNat) :
    s.readRegister address = 0 := by
  simp only [State.readRegister, configAt_of_unassigned h, statAt_of_unassigned h]
  split
  · next a o hblock =>
    obtain ⟨rfl, ho⟩ := agentBlock_eq_some hblock
    exact s.readAgentStatus_of_unassigned a ho h
  · exact s.readDevice_of_unassigned h

end

end Sys2Proof.Machine
end

section
/-! SUPPORT. Writes through the management window, the alert and the capture of next token, and the statement on the
registers (R157, R158, R161, R162). -/

namespace Sys2Proof.Machine

open Sys2Proof.Expect

theorem low_high_append (x : BitVec 64) : x.extractLsb' 32 32 ++ x.extractLsb' 0 32 = x := by
  have hhigh : (x.extractLsb' 32 32).toNat = x.toNat / 2 ^ 32 := by
    rw [BitVec.extractLsb'_toNat, Nat.shiftRight_eq_div_pow]
    omega
  have hlow : (x.extractLsb' 0 32).toNat = x.toNat % 2 ^ 32 := by
    rw [BitVec.extractLsb'_toNat, Nat.shiftRight_zero]
  apply BitVec.eq_of_toNat_eq
  rw [BitVec.toNat_append, ← Nat.shiftLeft_add_eq_or_of_lt (BitVec.isLt _), Nat.shiftLeft_eq, hhigh, hlow]
  omega

theorem hasOwnWrite_iff (address : BitVec 16) :
    hasOwnWrite address = true ↔
      (∃ r, address = configAddress r) ∨ (∃ r, address = statAddress r) ∨ address ∈ [0x0030#16, 0x0034, 0x0068] := by
  have hconfig : (configAt address).isSome = true ↔ ∃ r, address = configAddress r := by
    rw [Option.isSome_iff_exists]
    exact ⟨fun ⟨r, hr⟩ => ⟨r, configAt_eq_some hr⟩, fun ⟨r, hr⟩ => ⟨r, by rw [hr, configAt_configAddress]⟩⟩
  have hstat : (statAt address).isSome = true ↔ ∃ r, address = statAddress r := by
    rw [Option.isSome_iff_exists]
    exact ⟨fun ⟨r, hr⟩ => ⟨r, statAt_eq_some hr⟩, fun ⟨r, hr⟩ => ⟨r, by rw [hr, statAt_statAddress]⟩⟩
  simp only [hasOwnWrite, Bool.or_eq_true, decide_eq_true_iff, hconfig, hstat, List.mem_cons, List.not_mem_nil, or_false,
    or_assoc]
  rfl

/-- Where each statistic of an agent stands in the order of the registers (Table 11-11). -/
theorem statOffset_of_statOrder {k : AgentStat} {n : Nat} (h : statOrder[n]? = some k) : statOffset k = 0x40 + 4 * n := by
  obtain ⟨hn, hk⟩ := List.getElem?_eq_some_iff.mp h
  have hlength : n < 10 := hn
  subst hk
  interval_cases n <;> rfl

section
variable {s : State}

theorem exec_registerWrite_of_resetN (hreset : s.resetN = true) (address : BitVec 16) (value : Word) :
    exec (.registerWrite address value) s = .next (s.writeRegister address value) := by
  change Host.Outcome.next (if s.resetN then s.writeRegister address value else s) = _
  rw [if_pos hreset]

/-- An address without a write of its own stores an argument or nothing (R161). -/
theorem State.writeRegister_of_plain {address : BitVec 16} (hplain : hasOwnWrite address = false) (value : Word) :
    s.writeRegister address value = s.writePlain address value := by
  simp only [hasOwnWrite, Bool.or_eq_false_iff, decide_eq_false_iff_not, Option.isSome_eq_false_iff,
    Option.isNone_iff_eq_none] at hplain
  obtain ⟨⟨⟨⟨hconfig, hstat⟩, hsummary⟩, henable⟩, hcommand⟩ := hplain
  simp only [State.writeRegister, hconfig, hstat, if_neg hsummary, if_neg henable, if_neg hcommand]

/-- ALERT_N is low when a flag and its enable are set (R158). -/
theorem State.alertLow_iff (hreset : s.resetN = true) :
    s.alertLow = true ↔ ∃ i, i < 5 ∧ s.mgmt.faults.getLsbD i = true ∧ s.mgmt.enables.getLsbD i = true := by
  simp only [State.alertLow, hreset, Bool.true_and, decide_eq_true_iff]
  constructor
  · intro hne
    by_contra hnone
    refine hne (BitVec.eq_of_getLsbD_eq fun i hi => ?_)
    have hi' : ¬ (s.mgmt.faults.getLsbD i = true ∧ s.mgmt.enables.getLsbD i = true) := fun h => hnone ⟨i, hi, h⟩
    rw [BitVec.getLsbD_and]
    simpa using hi'
  · rintro ⟨i, -, hfault, henable⟩ hzero
    have := congrArg (fun x => BitVec.getLsbD x i) hzero
    simp [hfault, henable] at this

end

/-- Settles O46: the reads of the whole map, then the writes one by one. -/
theorem otherRegisterAccesses : Obligations.OtherRegisterAccesses := by
  refine ⟨fun s => ⟨s.deviceReads, s.windowReads, s.agentReads, fun _ => s.readRegister_of_unassigned⟩,
    ⟨rfl, rfl, rfl, rfl, rfl, rfl, rfl, fun a => ⟨fun _ => rfl, rfl, rfl, fun k n hk => ?_⟩⟩,
    fun m r v => ⟨m.stat_putStat_self r v, fun r' => m.stat_putStat_of_ne v, m.putStat_frame r v⟩,
    State.readRegister_statAddress, hasOwnWrite_iff, fun s hlow => ?_, fun s value hreset => ?_⟩
  · rw [statAddress, statOffset_of_statOrder hk]
  · rw [State.alertLow, hlow, Bool.false_and]
  · refine ⟨⟨s.mgmt.faults &&& ~~~(value.setWidth 5), ?_, fun i hi => ?_⟩,
      ⟨value.setWidth 5, ?_, fun i hi => ?_⟩, State.alertLow_iff hreset, ⟨_, ?_, rfl, ?_⟩, ?_, ?_,
      fun address hplain h0 h1 => ?_⟩
    · change Host.Outcome.next (if s.resetN then s.writeFaults value else s) = _
      rw [if_pos hreset, State.writeFaults]
    · simp [hi]
    · change Host.Outcome.next (if s.resetN then s.writeEnables value else s) = _
      rw [if_pos hreset, State.writeEnables]
    · simp [hi]
    · change Host.Outcome.next (if s.resetN then s.captureToken else s) = _
      rw [if_pos hreset, State.captureToken]
    · exact low_high_append s.dir.nextToken
    · rw [exec_registerWrite_of_resetN hreset]
      rfl
    · rw [exec_registerWrite_of_resetN hreset]
      rfl
    · rw [exec_registerWrite_of_resetN hreset, State.writeRegister_of_plain hplain, State.writePlain,
        if_neg (show ¬ address = arg0Address from h0), if_neg (show ¬ address = arg1Address from h1)]

end Sys2Proof.Machine
end

section
/-! SUPPORT. The step, the passing of time, the two commands of RESET_N, the values after reset and the arbiter, with the
statements on them (R15, R19, R20, R22, R170). -/

namespace Sys2Proof.Machine

open Sys2Proof.Expect

/-- Settles O1: the step reads the queue of waiting commands. -/
theorem stepRunsTheFrontCommand : Obligations.StepRunsTheFrontCommand := by
  intro c rest s hpending
  simp only [step, hpending]

/-! ### The passing of time (log entries 2 and 3) -/

section
variable {s : State}

theorem State.dueDeadlines_isEmpty_iff (s : State) :
    (!s.dueDeadlines.isEmpty) = true ↔ ∃ e ∈ s.deadlines.list.head?, Reached s.clock.ms e.due := by
  rw [State.dueDeadlines]
  cases s.deadlines.list with
  | nil => simp
  | cons e rest =>
    by_cases hdue : reached s.clock.ms e.due = true
    · simp [hdue, (reached_iff _ _).mp hdue]
    · simp [hdue, mt (reached_iff _ _).mpr hdue]

theorem mem_allAgents (a : AgentId) : a ∈ allAgents := by
  revert a
  decide

theorem State.expiryOutstanding_iff (s : State) : s.expiryOutstanding = true ↔ ExpiryDue s := by
  simp only [State.expiryOutstanding, ExpiryDue, Bool.or_eq_true, State.dueDeadlines_isEmpty_iff, List.any_eq_true,
    mem_allAgents, true_and, State.graceExpires_iff, State.lapseExpires_iff, State.holdExpires_iff,
    State.retransmitExpires_iff, or_assoc]

theorem step_of_nothing_waiting (hpending : s.pending = []) : step s = .next s.idle := by
  simp only [step, hpending]

end

/-- Settles O2: with nothing waiting the step is `State.idle`, which waits for RESET_N and for the expiries. -/
theorem emptyQueueLetsTimePass : Obligations.EmptyQueueLetsTimePass := by
  intro s hpending
  rw [step_of_nothing_waiting hpending, State.idle]
  refine ⟨fun hreset hnone => ?_, fun hheld => ?_⟩
  · have hout : s.expiryOutstanding = false := Bool.eq_false_iff.mpr (mt s.expiryOutstanding_iff.mp hnone)
    rw [if_pos (by simp [hreset, hout]), Clock.tick]
    by_cases hphase : s.clock.phase < 999
    · rw [if_pos hphase, if_neg (by rw [Config.microsPerMilli]; omega)]
    · rw [if_neg hphase, if_pos (by rw [Config.microsPerMilli]; omega)]
  · have hnot : ¬ (s.resetN && !s.expiryOutstanding) = true := by
      rcases hheld with hlow | hdue
      · simp [hlow]
      · simp [s.expiryOutstanding_iff.mpr hdue]
    rw [if_neg hnot]

/-! ### While RESET_N is low (R170) -/

section
variable {s : State} (hlow : s.resetN = false)
include hlow

theorem next_of_reset_low (t : State) :
    (.next (if s.resetN then t else s) : Host.Outcome State Fault Refusal) = .next s := by
  rw [if_neg (by simp [hlow])]

theorem next_of_reset_low_and (x : Bool) (t : State) :
    (.next (if s.resetN && x then t else s) : Host.Outcome State Fault Refusal) = .next s := by
  rw [if_neg (by simp [hlow])]

theorem State.receive_of_reset_low (a : AgentId) (frame : List Byte) : s.receive a frame = s := by
  rw [State.receive, if_neg (by simp [hlow])]

theorem State.turn_of_reset_low (r : Requester) (op : State → State) : s.turn r op = s := by
  rcases State.turn_cases (s := s) (r := r) op with h | ⟨hreset, -, -⟩
  · exact h
  · rw [hlow] at hreset; cases hreset

theorem State.agentTurn_of_reset_low (a : AgentId) (k : ReqKind) (op : Request → State → State × Reply) :
    s.agentTurn a k op = s := by
  rcases State.agentTurn_cases (s := s) a k op with h | ⟨q, rest, ⟨hreset, -, -⟩, -, -⟩
  · exact h
  · rw [hlow] at hreset; cases hreset

theorem State.managementTurn_of_reset_low (c : ArbiterCommand) (op : IssuedCommand → State → State) :
    s.managementTurn c op = s := by
  rw [State.managementTurn]
  split
  · split
    · exact State.turn_of_reset_low hlow _ _
    · rfl
  · rfl

/-- While RESET_N is low a command other than the two of the pin changes nothing. -/
theorem exec_of_reset_low {c : Instr} (hpower : c ≠ .powerOnReset) (hreturns : c ≠ .resetNReturnsHigh) :
    exec c s = .next s := by
  cases c with
  | powerOnReset => exact absurd rfl hpower
  | resetNReturnsHigh => exact absurd rfl hreturns
  | keepalive a frame | ack a frame | request a frame => exact congrArg _ (State.receive_of_reset_low hlow a frame)
  | openSession a | resume a | close a | flush a | acquire a | release a | downgrade a | upgrade a | cancel a | lookup a
  | list a => exact congrArg _ (State.agentTurn_of_reset_low hlow a _ _)
  | expireWait => exact congrArg _ (State.turn_of_reset_low hlow _ _)
  | teardownStep =>
    change Host.Outcome.next _ = _
    split
    · exact congrArg _ (State.turn_of_reset_low hlow _ _)
    · rfl
  | cleanupStep =>
    change Host.Outcome.next _ = _
    split
    · exact congrArg _ (State.turn_of_reset_low hlow _ _)
    · rfl
  | breakRecord | inspectRecord | clearQuarantine | resetDirectory =>
    exact congrArg _ (State.managementTurn_of_reset_low hlow _ _)
  | graceTimerExpiry a | lapseTimerExpiry a | holdTimerExpiry a | retransmitTimerExpiry a =>
    exact next_of_reset_low_and hlow _ _
  | linkUp a | linkDown a | deadlineFallsDue | transmitFrame a | enableDirectory upper | loadTokenFloor upper
  | evictAgent upper | badCommand value | configurationWrite r value | faultSummaryWrite value | faultEnableWrite value
  | statisticWrite r value | ntokLo | registerWrite address value | arbiterCommandIssue c upper | lostCommandWrite value
  | frameEnd a => exact next_of_reset_low hlow _

end

/-- Settles O4: RESET_N gates every other command. -/
theorem nothingHappensWhileResetIsLow : Obligations.NothingHappensWhileResetIsLow :=
  fun _ hlow => ⟨fun _ hpower hreturns => exec_of_reset_low hlow hpower hreturns, rfl⟩

/-- Settles O3: POWER_ON_RESET writes every block; `exec_of_reset_low` holds the part there. -/
theorem powerOnResetHoldsUntilResetReturnsHigh : Obligations.PowerOnResetHoldsUntilResetReturnsHigh := by
  refine ⟨fun s => ⟨s.powerOn, rfl, rfl, rfl, rfl, fun _ => rfl, fun _ => rfl, rfl, Per.get_replicate _, rfl, fun r => ?first,
    rfl, rfl, rfl, Per.get_replicate _, Per.get_replicate _, Per.get_replicate _, rfl, rfl, rfl, rfl, rfl, rfl,
    fun a => ⟨Per.get_replicate _ a, Per.get_replicate _ a⟩, rfl, rfl, rfl, rfl, rfl, rfl, rfl, rfl, fun r => ?stat, rfl,
    fun hidle => ?released, fun hhigh hbusy => ?abandoned, fun hlow => ?kept, rfl, rfl, fun c hc => ?held, rfl⟩,
    fun _ => rfl⟩
  case first => exact Nat.zero_le _
  case stat =>
    cases r with
    | quarantines => rfl
    | agent a k =>
      have hzero : Per.get s.powerOn.mgmt.stats a = AgentStats.reset := Per.get_replicate _ a
      simp only [Management.stat, hzero]
      cases k <;> rfl
  case released =>
    simp only [State.powerOn, hidle]
    split <;> rfl
  case abandoned =>
    simp only [State.powerOn, if_pos hhigh]
    cases hspi : s.spi with
    | released => exact absurd hspi hbusy
    | transaction bits v | abandoned => rfl
  case kept => simp [State.powerOn, hlow]
  case held =>
    by_cases hpower : c = .powerOnReset
    · subst hpower
      rfl
    · exact exec_of_reset_low rfl hpower hc

end Sys2Proof.Machine
end

section
/-! SUPPORT. The state after reset and the arbiter, with the statements on them (R15, R19, R20, R22). -/

namespace Sys2Proof.Machine

open Sys2Proof.Expect

/-! ### The state after reset -/

theorem State.reset_counts (a : AgentId) : State.reset.counts a = { holds := 0, waits := 0, upgrades := 0, nextStamp := 1 } :=
  Per.get_replicate _ a

theorem State.reset_stat (r : StatReg) : State.reset.mgmt.stat r = 0 := by
  cases r with
  | quarantines => rfl
  | agent a k =>
    have hzero : Per.get State.reset.mgmt.stats a = AgentStats.reset := Per.get_replicate _ a
    simp only [Management.stat, hzero]
    cases k <;> rfl

/-- Settles O5: each register's address reads its field of the state after reset. -/
theorem registersReadTheirResetValues : Obligations.RegistersReadTheirResetValues := by
  refine ⟨rfl, rfl, rfl, rfl, rfl, rfl, rfl, rfl, rfl, rfl, rfl, rfl, rfl, rfl, rfl, rfl, rfl, rfl, rfl, rfl,
    fun r => ?stat, fun a => ⟨?_, ?_, ?_, ?_, ?_, ?_, ?_, ?_, ?_⟩, rfl⟩
  case stat => rw [State.readRegister_statAddress, State.reset_stat]
  all_goals
    revert a
    decide

/-- Settles O6: the tables and the queues are empty, the sessions are CLOSED and the counts are 0. -/
theorem invariantsHoldAtReset : Obligations.InvariantsHoldAtReset := by
  refine ⟨⟨rfl, rfl⟩, ⟨fun a => ?ports, rfl⟩, reset_sessionsOk, ⟨by decide, fun _ => ⟨rfl, rfl, rfl, rfl, rfl, fun a => ?closed⟩⟩,
    ⟨Nat.zero_le _, fun j hj => absurd hj List.not_mem_nil, List.nodup_nil⟩,
    ⟨List.nodup_nil, fun e he => absurd he List.not_mem_nil, List.Pairwise.nil⟩,
    ⟨⟨rfl, rfl⟩, List.nodup_nil, fun e he => absurd he List.not_mem_nil, fun e he => absurd he List.not_mem_nil,
      fun a => ⟨?holds, ?waits, ?upgrades, List.nodup_nil⟩⟩,
    ⟨rfl, List.nodup_nil, fun x hx => absurd hx List.not_mem_nil⟩⟩
  case ports =>
    have hport : State.reset.port a = Port.reset := Per.get_replicate _ a
    rw [hport]
    exact ⟨Nat.zero_le _, Nat.zero_le _, Nat.zero_le _, List.nodup_nil, rfl, rfl, fun q hq => absurd hq List.not_mem_nil,
      fun _ => ⟨rfl, rfl, rfl, rfl⟩⟩
  case closed =>
    have hsession : State.reset.session a = Session.reset := Per.get_replicate _ a
    rw [hsession]
    rfl
  all_goals
    rw [State.reset_counts]
    rfl

/-! ### The arbiter (R19, R20, R22) -/

/-- The order of the turns is the order of the places behind the one served last, each place in it once. -/
theorem rotation_sorted (last : Requester) :
    (rotation last).Pairwise (fun x y => turnDistance last x < turnDistance last y) := by
  cases last with
  | agent a =>
    revert a
    decide
  | expiry | sweep | management => decide

theorem mem_rotation (last r : Requester) : r ∈ rotation last := by
  have hall : r ∈ allRequesters := by
    cases r with
    | agent a =>
      revert a
      decide
    | expiry | sweep | management => decide
  rw [rotation, List.mem_append, or_comm, ← List.mem_append, List.take_append_drop]
  exact hall

section
variable {s : State} {a : AgentId}

theorem State.nextTurn_of_idle (hidle : s.arbiter.operation = none) :
    s.nextTurn = (rotation s.arbiter.lastServed).find? s.eligible := by
  rw [State.nextTurn, if_neg (by simp [hidle])]

/-- The first eligible requester of the rotation stands before every other one that is eligible. -/
theorem turnDistance_of_find {last r r' : Requester} {p : Requester → Bool} (hfind : (rotation last).find? p = some r)
    (hr' : p r' = true) : r' = r ∨ turnDistance last r < turnDistance last r' := by
  obtain ⟨-, before, behind, hsplit, hbefore⟩ := List.find?_eq_some_iff_append.mp hfind
  have hmem := mem_rotation last r'
  have hsorted := rotation_sorted last
  rw [hsplit] at hmem hsorted
  rcases List.mem_append.mp hmem with hin | hin
  · have := hbefore r' hin
    simp [hr'] at this
  · rcases List.mem_cons.mp hin with rfl | hin
    · exact .inl rfl
    · exact .inr (List.rel_of_pairwise_cons (List.pairwise_append.mp hsorted).2.1 hin)

theorem State.nextTurn_eq_some_iff (hidle : s.arbiter.operation = none) (r : Requester) :
    s.nextTurn = some r ↔
      s.eligible r = true ∧
        ∀ r', s.eligible r' = true → turnDistance s.arbiter.lastServed r ≤ turnDistance s.arbiter.lastServed r' := by
  rw [State.nextTurn_of_idle hidle]
  constructor
  · intro hfind
    refine ⟨List.find?_some hfind, fun r' hr' => ?_⟩
    rcases turnDistance_of_find hfind hr' with rfl | hlt
    · exact Nat.le_refl _
    · exact Nat.le_of_lt hlt
  · rintro ⟨hr, hfirst⟩
    cases hfind : (rotation s.arbiter.lastServed).find? s.eligible with
    | none => exact absurd hr (List.find?_eq_none.mp hfind r (mem_rotation _ r))
    | some x =>
      rcases turnDistance_of_find hfind hr with rfl | hlt
      · rfl
      · exact absurd (hfirst x (List.find?_some hfind)) (Nat.not_le.mpr hlt)

theorem State.nextTurn_eq_none_iff (hidle : s.arbiter.operation = none) :
    s.nextTurn = none ↔ ∀ r, s.eligible r = false := by
  rw [State.nextTurn_of_idle hidle, List.find?_eq_none]
  exact ⟨fun h r => Bool.eq_false_iff.mpr (h r (mem_rotation _ r)), fun h r _ => by rw [h r]; exact Bool.false_ne_true⟩

/-! ### A command carried out at a turn that is not its own (log entry 1) -/

theorem exec_takes_eq (k : ReqKind) (a : AgentId) (s : State) : ∃ op, exec (takes k a) s = .next (s.agentTurn a k op) := by
  cases k <;> exact ⟨_, rfl⟩

theorem exec_carriesOut_eq (k : ArbiterCommand) (s : State) :
    ∃ op, exec (carriesOut k) s = .next (s.managementTurn k op) := by
  cases k <;> exact ⟨_, rfl⟩

theorem exec_takes_of_not_turn {k : ReqKind}
    (hnot : ¬ (s.resetN = true ∧ s.nextTurn = some (.agent a) ∧ ∃ q ∈ (s.port a).inbound.head?, q.body.kind = k)) :
    exec (takes k a) s = .next s := by
  obtain ⟨op, hexec⟩ := exec_takes_eq k a s
  rw [hexec]
  rcases State.agentTurn_cases (s := s) a k op with h | ⟨q, rest, ⟨hreset, hnext, hhead⟩, hkind, -⟩
  · rw [h]
  · exact absurd ⟨hreset, hnext, q, by rw [hhead]; rfl, hkind⟩ hnot

theorem State.turn_of_not_turn {r : Requester} (op : State → State) (hnot : ¬ (s.resetN = true ∧ s.nextTurn = some r)) :
    s.turn r op = s := by
  rcases State.turn_cases (s := s) (r := r) op with h | ⟨hreset, hnext, -⟩
  · exact h
  · exact absurd ⟨hreset, hnext⟩ hnot

theorem exec_teardownStep_of_not_turn
    (hnot : ¬ (s.resetN = true ∧ s.nextTurn = some .sweep ∧ ∃ a, s.sweep.head? = some (.teardown a))) :
    exec .teardownStep s = .next s := by
  change Host.Outcome.next _ = _
  split
  · next b hhead =>
    rw [State.turn_of_not_turn _ fun ⟨hreset, hnext⟩ => hnot ⟨hreset, hnext, b, hhead⟩]
  · rfl

theorem exec_cleanupStep_of_not_turn
    (hnot : ¬ (s.resetN = true ∧ s.nextTurn = some .sweep ∧ ∃ h, s.sweep.head? = some (.cleanup h))) :
    exec .cleanupStep s = .next s := by
  change Host.Outcome.next _ = _
  split
  · next b hhead =>
    rw [State.turn_of_not_turn _ fun ⟨hreset, hnext⟩ => hnot ⟨hreset, hnext, b, hhead⟩]
  · rfl

theorem exec_carriesOut_of_not_turn {k : ArbiterCommand}
    (hnot : ¬ (s.resetN = true ∧ s.nextTurn = some .management ∧ ∃ b ∈ s.mgmt.busy, b.command = k)) :
    exec (carriesOut k) s = .next s := by
  obtain ⟨op, hexec⟩ := exec_carriesOut_eq k s
  rw [hexec, State.managementTurn]
  split
  · next b hbusy =>
    split
    · next hcommand =>
      rw [State.turn_of_not_turn _ fun ⟨hreset, hnext⟩ => hnot ⟨hreset, hnext, b, hbusy, hcommand⟩]
    · rfl
  · rfl

theorem State.eligible_agent_iff (s : State) (a : AgentId) :
    s.eligible (.agent a) = true ↔ (s.port a).inbound ≠ [] ∧ Room s a := by
  simp only [State.eligible, Bool.and_eq_true, Port.hasRoom_iff, Bool.not_eq_true', List.isEmpty_eq_false_iff, ne_eq]

end

/-- Settles O7: eligibility by requester; the turn by the rotation; and out of turn each command is the unchanged state. -/
theorem turnGoesToTheFirstEligible : Obligations.TurnGoesToTheFirstEligible := by
  intro s
  refine ⟨fun hbusy => ?busy, fun a k => exec_takes_of_not_turn, fun hnot => ?expiry, exec_teardownStep_of_not_turn,
    exec_cleanupStep_of_not_turn, fun k => exec_carriesOut_of_not_turn, s.eligible_agent_iff, ?_, ?_, ?_,
    fun hidle => ⟨State.nextTurn_eq_some_iff hidle, State.nextTurn_eq_none_iff hidle⟩⟩
  case busy => rw [State.nextTurn, if_pos (Option.isSome_iff_ne_none.mpr hbusy)]
  case expiry => exact congrArg _ (State.turn_of_not_turn _ hnot)
  · simp only [State.eligible, Bool.and_eq_true, decide_eq_true_iff, Bool.not_eq_true', List.isEmpty_eq_false_iff, ne_eq]
  · simp only [State.eligible, Bool.and_eq_true, decide_eq_true_iff, Bool.not_eq_true', List.isEmpty_eq_false_iff, ne_eq]
  · simp only [State.eligible, Option.isSome_iff_exists]

end Sys2Proof.Machine
end

section
/-! SUPPORT. The frames of the link, byte by byte, and the statement on them (R138, R140, R173 to R175, Chapter 11). -/

namespace Sys2Proof.Machine

open Sys2Proof.Expect

/-! ### Words and their bytes -/

theorem append_byte_toNat {w : Nat} (x : BitVec w) (y : Byte) : (x ++ y).toNat = x.toNat * 256 + y.toNat := by
  rw [BitVec.toNat_append, ← Nat.shiftLeft_add_eq_or_of_lt y.isLt, Nat.shiftLeft_eq]

/-- The byte with `k` bytes below it. -/
theorem byte_toNat {w : Nat} (v : BitVec w) (k : Nat) : (v.extractLsb' (8 * k) 8).toNat = v.toNat / 256 ^ k % 256 := by
  rw [extractLsb'_toNat, BitVec.toNat_ofNat]

theorem be32_bytes32 (w : BitVec 32) :
    be32 (w.extractLsb' 24 8) (w.extractLsb' 16 8) (w.extractLsb' 8 8) (w.extractLsb' 0 8) = w := by
  apply BitVec.eq_of_toNat_eq
  rw [be32, append_byte_toNat, append_byte_toNat, append_byte_toNat, byte_toNat w 3, byte_toNat w 2, byte_toNat w 1,
    byte_toNat w 0]
  omega

theorem be64_bytes64 (w : BitVec 64) :
    be64 (w.extractLsb' 56 8) (w.extractLsb' 48 8) (w.extractLsb' 40 8) (w.extractLsb' 32 8) (w.extractLsb' 24 8)
      (w.extractLsb' 16 8) (w.extractLsb' 8 8) (w.extractLsb' 0 8) = w := by
  apply BitVec.eq_of_toNat_eq
  rw [be64, append_byte_toNat, append_byte_toNat, append_byte_toNat, append_byte_toNat, append_byte_toNat,
    append_byte_toNat, append_byte_toNat, byte_toNat w 7, byte_toNat w 6, byte_toNat w 5, byte_toNat w 4, byte_toNat w 3,
    byte_toNat w 2, byte_toNat w 1, byte_toNat w 0]
  omega

theorem bigEndian_four (v : BitVec 32) : bigEndian 4 v.toNat = bytes32 v := by
  simp only [bigEndian, ← extractLsb'_toNat]
  rfl

theorem bigEndian_eight (v : BitVec 64) : bigEndian 8 v.toNat = bytes64 v := by
  simp only [bigEndian, ← extractLsb'_toNat]
  rfl

theorem bigEndian_two_handle (h : Nat) : bigEndian 2 h = handleBytes h := by
  have hmod : bigEndian 2 h = bigEndian 2 (BitVec.ofNat 16 h).toNat := by
    have hhigh : BitVec.ofNat 8 (h / 256) = BitVec.ofNat 8 (h % 65536 / 256) := by
      apply BitVec.eq_of_toNat_eq
      rw [BitVec.toNat_ofNat, BitVec.toNat_ofNat]
      omega
    have hlow : BitVec.ofNat 8 h = BitVec.ofNat 8 (h % 65536) := by
      apply BitVec.eq_of_toNat_eq
      rw [BitVec.toNat_ofNat, BitVec.toNat_ofNat]
      omega
    simp only [bigEndian, BitVec.toNat_ofNat, pow_one, pow_zero, Nat.div_one, hhigh, hlow]
  rw [hmod, bigEndian_two, handleBytes]

theorem handleBytes_toNat (w : BitVec 16) : handleBytes w.toNat = bytes16 w := by
  rw [handleBytes, BitVec.ofNat_toNat, BitVec.setWidth_eq]

/-! ### The codes are those of the tables -/

theorem ReqKind.code_eq_kindCode (k : ReqKind) : k.code = kindCode k := by cases k <;> rfl

theorem ReqKind.ofCode_kindCode (k : ReqKind) : ReqKind.ofCode (kindCode k) = some k := by cases k <;> rfl

theorem ReqKind.ofCode_eq_some_iff (k : ReqKind) (c : Byte) : ReqKind.ofCode c = some k ↔ c = kindCode k := by
  constructor
  · intro h
    simp only [ReqKind.ofCode] at h
    repeat' split at h
    all_goals first | (cases h; assumption) | cases h
  · rintro rfl
    exact ReqKind.ofCode_kindCode k

theorem Mode.code_eq_modeCode (m : Mode) : m.code = modeCode m := by cases m <;> rfl

theorem Mode.ofCode_modeCode (m : Mode) : Mode.ofCode (modeCode m) = some m := by cases m <;> rfl

theorem Result.code_eq_statusCode (r : Result) : r.code = statusCode r := by cases r <;> rfl

theorem flagsByte_eq (b0 b1 b2 b3 : Bool) :
    flagsByte b0 b1 b2 b3 = flagByte 0 b0 ||| flagByte 1 b1 ||| flagByte 2 b2 ||| flagByte 3 b3 := by
  cases b0 <;> cases b1 <;> cases b2 <;> cases b3 <;> rfl

theorem flagByte_false (k : Nat) : flagByte k false = 0#8 := rfl

/-! ### Bodies of requests (Table 11-3, R173) -/

theorem RequestBody.bytes_eq_requestBody (b : RequestBody) : b.bytes = requestBody b := by
  cases b <;> simp [RequestBody.bytes, requestBody, bigEndian_two, bigEndian_four, bigEndian_eight, flagsByte_eq,
    flagByte_false, Mode.code_eq_modeCode]

theorem nsOk_iff_le (ns : Byte) : nsOk ns = true ↔ ns.toNat ≤ 15 := decide_eq_true_iff

theorem handleOk_iff_le (h : BitVec 16) : handleOk h = true ↔ h.toNat ≤ 4095 := by
  rw [handleOk, decide_eq_true_iff, Config.slotCount]
  omega

theorem Request.wf_iff_inRange (r : Request) : Request.wf r = true ↔ InRange r.body := by
  unfold Request.wf
  cases r.body <;> simp only [InRange, nsOk_iff_le, handleOk_iff_le]

section
variable {ns : Byte} {h : BitVec 16}

/-- A reader takes the fields of an ACQUIRE as they stand, whatever the reserved byte. -/
theorem readBody_acquire (hns : ns.toNat ≤ 15) (mode : Mode) (options reserved : Byte) (d : BitVec 16) (key : Key) :
    readBody .acquire ([ns, modeCode mode, options, reserved] ++ bytes16 d ++ bytes64 key) =
      some (.acquire ns mode (options.getLsbD 0) (options.getLsbD 1) (options.getLsbD 2) d key) := by
  simp only [bytes16, bytes64, List.cons_append, List.nil_append, readBody, Mode.ofCode_modeCode,
    (nsOk_iff_le ns).mpr hns, if_true, be16_bytes16, be64_bytes64]

theorem readBody_lookup (hns : ns.toNat ≤ 15) (reserved : Byte) (key : Key) :
    readBody .lookup ([ns, reserved] ++ bytes64 key) = some (.lookup ns key) := by
  simp only [bytes64, List.cons_append, List.nil_append, readBody, (nsOk_iff_le ns).mpr hns, if_true, be64_bytes64]

theorem readBody_upgrade (hh : h.toNat ≤ 4095) (token : Token) (options reserved : Byte) (d : BitVec 16) :
    readBody .upgrade (bytes16 h ++ bytes64 token ++ [options, reserved] ++ bytes16 d) =
      some (.upgrade h token (options.getLsbD 1) d) := by
  simp only [bytes16, bytes64, List.cons_append, List.nil_append, readBody, be16_bytes16, be64_bytes64,
    (handleOk_iff_le h).mpr hh, if_true]

theorem readBody_release (hh : h.toNat ≤ 4095) (token : Token) :
    readBody .release (bytes16 h ++ bytes64 token) = some (.release h token) := by
  simp only [bytes16, bytes64, List.cons_append, List.nil_append, readBody, be16_bytes16, be64_bytes64,
    (handleOk_iff_le h).mpr hh, if_true]

theorem readBody_downgrade (hh : h.toNat ≤ 4095) (token : Token) :
    readBody .downgrade (bytes16 h ++ bytes64 token) = some (.downgrade h token) := by
  simp only [bytes16, bytes64, List.cons_append, List.nil_append, readBody, be16_bytes16, be64_bytes64,
    (handleOk_iff_le h).mpr hh, if_true]

theorem readBody_cancel (hh : h.toNat ≤ 4095) : readBody .cancel (bytes16 h) = some (.cancel h) := by
  simp only [bytes16, readBody, be16_bytes16, (handleOk_iff_le h).mpr hh, if_true]

theorem readBody_list (after : Stamp) : readBody .list (bytes32 after) = some (.list after) := by
  simp only [bytes32, readBody, be32_bytes32]

end

theorem acquire_options_bits (t p n : Bool) :
    (flagsByte t p n false).getLsbD 0 = t ∧ (flagsByte t p n false).getLsbD 1 = p ∧ (flagsByte t p n false).getLsbD 2 = n := by
  cases t <;> cases p <;> cases n <;> decide

theorem upgrade_options_bit (p : Bool) : (flagsByte false p false false).getLsbD 1 = p := by
  cases p <;> decide

/-- The body of a request in range reads back. -/
theorem readBody_requestBody {b : RequestBody} (hb : InRange b) : readBody b.kind (requestBody b) = some b := by
  cases b with
  | openSession | resume | close | flush => rfl
  | acquire ns mode tryNow prompt notice d key =>
    obtain ⟨ht, hp, hn⟩ := acquire_options_bits tryNow prompt notice
    rw [requestBody, bigEndian_two, bigEndian_eight, RequestBody.kind, readBody_acquire hb, ht, hp, hn]
  | release h t => rw [requestBody, bigEndian_two, bigEndian_eight, RequestBody.kind, readBody_release hb]
  | downgrade h t => rw [requestBody, bigEndian_two, bigEndian_eight, RequestBody.kind, readBody_downgrade hb]
  | upgrade h t prompt d =>
    rw [requestBody, bigEndian_two, bigEndian_two, bigEndian_eight, RequestBody.kind, readBody_upgrade hb,
      upgrade_options_bit]
  | cancel h => rw [requestBody, bigEndian_two, RequestBody.kind, readBody_cancel hb]
  | lookup ns key => rw [requestBody, bigEndian_eight, RequestBody.kind, readBody_lookup hb]
  | list after => rw [requestBody, bigEndian_four, RequestBody.kind, readBody_list]

/-- The target that the bytes of a request give is the target of the request (R138). -/
theorem rawTarget_requestBody (b : RequestBody) : rawTarget b.kind (requestBody b) = some (targetOf b) := by
  cases b with
  | openSession | resume | close | flush => rfl
  | acquire | lookup =>
    simp only [requestBody, bigEndian_two, bigEndian_eight, bytes16, bytes64, List.cons_append, List.nil_append,
      RequestBody.kind, rawTarget, be64_bytes64, targetOf]
  | release | downgrade | upgrade | cancel =>
    simp only [requestBody, bigEndian_two, bigEndian_eight, bytes16, bytes64, List.cons_append, List.nil_append,
      RequestBody.kind, rawTarget, be16_bytes16, targetOf]
  | list => simp only [requestBody, bigEndian_four, bytes32, RequestBody.kind, rawTarget, be32_bytes32, targetOf]

theorem RawRequest.parse_of_body {tag : Tag} {epoch : Epoch} {body : List Byte} {b : RequestBody} {c : Byte}
    (hc : c = kindCode b.kind) (hb : readBody b.kind body = some b) :
    RawRequest.parse { kind := c, tag := tag, epoch := epoch, body := body } =
      some { tag := tag, epoch := epoch, body := b } := by
  simp only [RawRequest.parse, hc, ReqKind.ofCode_kindCode, hb]

/-! ### Whole frames (Tables 11-2, 11-4 and 11-7) -/

theorem Request.frame_eq_framed (r : Request) :
    Request.frame r =
      framed ([0x01, kindCode r.body.kind] ++ bigEndian 2 r.tag.toNat ++ bigEndian 2 r.epoch.toNat ++
        requestBody r.body) := by
  rw [Request.frame, sealFrame_eq_framed, bigEndian_two, bigEndian_two, RequestBody.bytes_eq_requestBody,
    ReqKind.code_eq_kindCode]

theorem readFrame_framed (c : List Byte) : readFrame (framed c) = readContents c := by
  rw [← sealFrame_eq_framed, readFrame_sealFrame]

theorem readFrame_request_frame (r : Request) :
    readFrame (Request.frame r) =
      some (.request { kind := kindCode r.body.kind, tag := r.tag, epoch := r.epoch, body := requestBody r.body }) := by
  rw [Request.frame_eq_framed, readFrame_framed, bigEndian_two, bigEndian_two]
  simp [bytes16, readContents, be16_bytes16]

theorem readFrame_ackFrame (n : Byte) (e : Epoch) : readFrame (ackFrame n e) = some (.ack n e) := by
  rw [ackFrame, readFrame_sealFrame]
  simp [bytes16, readContents, be16_bytes16]

theorem readFrame_keepaliveFrame (e : Epoch) : readFrame (keepaliveFrame e) = some (.keepalive e) := by
  rw [keepaliveFrame, readFrame_sealFrame]
  simp [bytes16, readContents, be16_bytes16]

theorem sealFrame_length (c : List Byte) : (sealFrame c).length = c.length + 2 := by
  simp [sealFrame, bytes16]

/-! ### Responses and digests (Tables 11-4 to 11-8, R174, R175) -/

theorem agentByte_eq_agentCode : agentByte = agentCode := rfl

theorem ListedEntry.bytes_eq_listedBytes (e : ListedEntry) : e.bytes = listedBytes e := by
  simp only [ListedEntry.bytes, listedBytes, bigEndian_four, bigEndian_two_handle, handleBytes_toNat,
    bigEndian_eight, ListedEntry.flags, flagsByte_eq, Mode.code_eq_modeCode]

theorem leaseBytes_eq_holdBytes (h : Nat) (m : Mode) (t : Token) : leaseBytes h m t = holdBytes h m t := by
  simp only [leaseBytes, holdBytes, bigEndian_two_handle, bigEndian_eight, Mode.code_eq_modeCode]

theorem Result.bytes_eq_statusBody (r : Result) : r.bytes = statusBody r := by
  cases r with
  | found h m holders waiters up =>
    cases up <;> simp [Result.bytes, statusBody, bigEndian_two_handle, bigEndian_eight, Mode.code_eq_modeCode,
      agentByte_eq_agentCode]
  | listed entries more =>
    cases more <;> simp [Result.bytes, statusBody, funext ListedEntry.bytes_eq_listedBytes]
  | sessionExists e st => cases st <;> simp [Result.bytes, statusBody, bigEndian_two, SessionState.existsByte]
  | _ => simp [Result.bytes, statusBody, bigEndian_two_handle, handleBytes_toNat, leaseBytes_eq_holdBytes,
      Mode.code_eq_modeCode]

theorem Result.bytes_length (r : Result) : r.bytes.length + 9 = statusLength r := by
  cases r with
  | found h m holders waiters up =>
    simp [Result.bytes, statusLength, handleBytes, bytes16, bytes64, List.length_flatMap]
    omega
  | listed entries more =>
    simp [Result.bytes, statusLength, ListedEntry.bytes, handleBytes, bytes16, bytes32, bytes64, List.length_flatMap]
    omega
  | _ => simp [Result.bytes, statusLength, leaseBytes, handleBytes, bytes16, bytes64]

theorem Notification.bytes_eq_notificationBytes (n : Notification) : n.bytes = notificationBytes n := by
  cases n <;> simp only [Notification.bytes, notificationBytes, entryBytes, digestEntry, bigEndian_two_handle,
    handleBytes_toNat, bigEndian_eight, flagsByte_eq, flagByte_false, Mode.code_eq_modeCode, BitVec.or_zero] <;> rfl

theorem Notification.bytes_length (n : Notification) : n.bytes.length = 16 := by
  cases n <;> rfl

theorem Response.frame_eq_framed (r : Response) :
    Response.frame r =
      framed ([0x81, r.kind] ++ bigEndian 2 r.tag.toNat ++ bigEndian 2 r.epoch.toNat ++ [statusCode r.result] ++
        statusBody r.result) := by
  rw [Response.frame, sealFrame_eq_framed, bigEndian_two, bigEndian_two, Result.code_eq_statusCode,
    Result.bytes_eq_statusBody]

theorem Response.frame_length (r : Response) : (Response.frame r).length = statusLength r.result := by
  rw [Response.frame, sealFrame_length, ← Result.bytes_length]
  simp [bytes16]

theorem Digest.frame_eq_framed (d : Digest) :
    Digest.frame d =
      framed ([0x82, d.number] ++ bigEndian 2 d.epoch.toNat ++
        [flagsByte d.retransmitted d.overflow false false, BitVec.ofNat 8 d.entries.length] ++
        d.entries.flatMap notificationBytes) := by
  rw [Digest.frame, sealFrame_eq_framed, bigEndian_two, flagsByte_eq, flagByte_false, flagByte_false,
    funext Notification.bytes_eq_notificationBytes]
  simp

theorem Digest.frame_length (d : Digest) : (Digest.frame d).length = 8 + 16 * d.entries.length := by
  rw [Digest.frame, sealFrame_length]
  simp [bytes16, List.length_flatMap, Notification.bytes_length]
  omega

/-! ### The statement -/

/-- Settles O51: requests read back by their bodies; every frame is its table's contents with their CRC. -/
theorem framesReadBack : Obligations.FramesReadBack := by
  refine ⟨Request.wf_iff_inRange, fun r hr => ⟨_, readFrame_request_frame r, rfl, rfl,
      RawRequest.parse_of_body rfl (readBody_requestBody hr), rawTarget_requestBody r.body⟩,
    readFrame_ackFrame, readFrame_keepaliveFrame, Request.frame_eq_framed, fun n e => ?_, fun e => ?_,
    fun k c => ⟨k.code_eq_kindCode, k.ofCode_eq_some_iff c⟩, fun k t1 t0 e1 e0 body => ?_, fun x e1 e0 => ?_,
    fun tag epoch ns options reserved mode d key h token => ⟨fun hns => ⟨?_, ?_⟩, fun hh => ?_⟩,
    fun r => ⟨r.frame_eq_framed, r.frame_length⟩, fun d => ⟨d.frame_eq_framed, d.frame_length⟩⟩
  · rw [ackFrame, sealFrame_eq_framed, bigEndian_two]
  · rw [keepaliveFrame, sealFrame_eq_framed, bigEndian_two]
  · rw [readFrame_framed]
    rfl
  · rw [readFrame_framed]
    rfl
  · rw [bigEndian_two, bigEndian_eight]
    exact RawRequest.parse_of_body rfl (readBody_acquire hns mode options reserved d key)
  · rw [bigEndian_eight]
    exact RawRequest.parse_of_body rfl (readBody_lookup hns reserved key)
  · rw [bigEndian_two, bigEndian_two, bigEndian_eight]
    exact RawRequest.parse_of_body rfl (readBody_upgrade hh token options reserved d)

end Sys2Proof.Machine
end

section
/-! SUPPORT. The management link bit by bit, the commands that its writes amount to, and the statement on transactions
(R160 to R162, R170). -/

namespace Sys2Proof.Machine

open Sys2Proof.Expect

/-! ### No command but POWER_ON_RESET reaches the port (log entry 7) -/

section
variable {s : State}

theorem State.sufferUpset_spi (s : State) : s.sufferUpset.spi = s.spi := by rw [State.sufferUpset_eq]

theorem begun_spi (r : Requester) (s : State) : (begun r s).spi = s.spi := s.sufferUpset_spi

theorem taken_spi (s : State) (a : AgentId) (q : Request) (rest : List Request) : (Expect.taken s a q rest).spi = s.spi :=
  s.sufferUpset_spi

theorem State.finish_spi (s : State) (a : AgentId) (q : Request) (reply : Reply) : (s.finish a q reply).spi = s.spi := by
  cases reply with
  | none | refused r => rfl
  | executed r => rw [State.finish_executed]; rfl

theorem State.enterRetiring_spi (s : State) (a : AgentId) (cause : RetireCause) (tag : Option Tag) :
    (s.enterRetiring a cause tag).spi = s.spi := by cases cause <;> rfl

theorem State.enterSuspect_spi (s : State) (a : AgentId) (cause : SuspectCause) : (s.enterSuspect a cause).spi = s.spi := by
  simp only [State.enterSuspect]
  split <;> rfl

theorem State.answerArrival_spi (s : State) (a : AgentId) (x : RawRequest) (r : Result) :
    (s.answerArrival a x r).1.spi = s.spi := by
  simp only [State.answerArrival]
  split <;> rfl

theorem State.arriveRequest_spi (s : State) (a : AgentId) (x : RawRequest) : (s.arriveRequest a x).spi = s.spi := by
  simp only [State.arriveRequest]
  repeat' split
  · exact s.answerArrival_spi a x _
  · exact s.answerArrival_spi a x _
  · rfl
  · exact s.answerArrival_spi a x _
  · exact s.answerArrival_spi a x _
  · rfl
  · exact s.answerArrival_spi a x _

theorem State.frameReport_spi (s : State) (a : AgentId) (e : Epoch) : (s.frameReport a e).spi = s.spi := by
  simp only [State.frameReport]
  split <;> rfl

theorem State.arrive_spi (s : State) (a : AgentId) (x : Arrival) : (s.arrive a x).spi = s.spi := by
  cases x with
  | keepalive e => exact s.frameReport_spi a e
  | ack n e => exact (State.judgeAck_frame _ a n e).spi.trans (s.frameReport_spi a e)
  | request q => exact (State.arriveRequest_spi _ a q).trans (s.frameReport_spi a q.epoch)

theorem State.retransmit_spi (s : State) (a : AgentId) : (s.retransmit a).spi = s.spi := by
  simp only [State.retransmit]
  repeat' split
  · rfl
  · exact (s.resend_frame a _ _).spi
  · exact State.enterSuspect_spi _ a _

theorem OpOutcome.spi {u t : State} (h : OpOutcome u t) : t.spi = u.spi := by
  cases h with
  | work hwork => exact hwork.toEngineFrame.spi
  | recordFault _ =>
    rw [State.quarantine_eq_quarantined]
    simp only [quarantined]
    split <;> rfl
  | memberFault => rfl

theorem SessionWork.spi {a : AgentId} {u t : State} (h : SessionWork a u t) : t.spi = u.spi := by
  cases h with
  | unchanged | opened _ _ | graced _ => rfl
  | resumed _ => exact (State.resumeModerator_frame _ a).spi
  | retired tag _ => exact u.enterRetiring_spi a _ _
  | flushed => exact (u.flushModerator_frame a).spi

theorem Event.spi {s t : State} (h : Event s t) : t.spi = s.spi := by
  cases h with
  | nothing | port _ | fallDue | management _ | enabled _ _ | floorLoaded _ _ _ _ | resetReturnsHigh => rfl
  | directoryTurn _ hop => rw [State.finish_spi, hop.spi, taken_spi]
  | sessionTurn _ hop => rw [State.finish_spi, hop.spi, taken_spi]
  | expiryTurn _ hop => exact hop.spi.trans (begun_spi .expiry s)
  | sweepTurn _ hop => exact hop.spi.trans (begun_spi .sweep s)
  | teardownDone _ _ =>
    rw [State.completeTeardown_eq_closed]
    exact begun_spi .sweep s
  | cleanupDone _ hnone =>
    simp only [State.cleanupStep, hnone]
    split <;> exact begun_spi .sweep s
  | managementTurn _ _ _ hop _ => exact hop.spi.trans (begun_spi .management s)
  | managementIdle _ _ => exact begun_spi .management s
  | frame x _ => exact s.arrive_spi _ x
  | linkDown hup =>
    simp only [State.linkDown, hup, if_true]
    exact State.enterSuspect_spi _ _ _
  | graceExpiry _ => exact s.enterSuspect_spi _ _
  | lapseExpiry _ => exact s.enterRetiring_spi _ _ _
  | holdExpiry _ => exact (s.emit_frame _).spi
  | retransmitExpiry _ => exact s.retransmit_spi _
  | evicted _ _ => exact s.enterRetiring_spi _ _ _

theorem exec_spi {c : Instr} {t : State} (hpower : c ≠ .powerOnReset) (hexec : exec c s = .next t) : t.spi = s.spi := by
  by_cases hreset : c = .resetDirectory
  · subst hreset
    rcases exec_resetDirectory_cases hexec with rfl | ⟨-, -, rfl⟩
    · rfl
    · exact begun_spi .management s
  · exact (exec_event hpower hreset hexec).spi

end

/-! ### The command of a write (R161, Table 10-3) -/

section
variable {s : State}

theorem extractLsb'_append_code (upper : BitVec 24) (code : Byte) : (upper ++ code).extractLsb' 8 24 = upper := by
  apply BitVec.eq_of_toNat_eq
  rw [BitVec.extractLsb'_toNat, append_byte_toNat, Nat.shiftRight_eq_div_pow]
  omega

theorem CommandName.code_of_ofCode {code : Byte} {c : CommandName} (h : CommandName.ofCode code = some c) :
    c.code = code := by
  simp only [CommandName.ofCode] at h
  repeat' split at h
  all_goals first | (next he => cases h; exact he.symm) | cases h

theorem append_upper_code (value : Word) : value.extractLsb' 8 24 ++ value.setWidth 8 = (value : BitVec (24 + 8)) := by
  apply BitVec.eq_of_toNat_eq
  rw [append_byte_toNat, BitVec.extractLsb'_toNat, BitVec.toNat_setWidth, Nat.shiftRight_eq_div_pow]
  omega

theorem State.commandOfWrite_of_busy (value : Word) (hbusy : s.mgmt.busy ≠ none) :
    s.commandOfWrite value = .lostCommandWrite value := by
  rw [State.commandOfWrite, if_pos (Option.isSome_iff_ne_none.mpr hbusy)]

/-- The command that the code of a write to CMD names. -/
def namedCommand (upper : BitVec 24) : CommandName → Instr
  | .enableDirectory => .enableDirectory upper
  | .loadTokenFloor => .loadTokenFloor upper
  | .evictAgent => .evictAgent upper
  | .arbiter c => .arbiterCommandIssue c upper

theorem State.commandOfWrite_of_code {upper : BitVec 24} {code : Byte} {c : CommandName} (hidle : s.mgmt.busy = none)
    (hcode : CommandName.ofCode code = some c) : s.commandOfWrite (upper ++ code) = namedCommand upper c := by
  simp only [State.commandOfWrite, hidle, Option.isSome_none, Bool.false_eq_true, if_false, setWidth_append_code, hcode,
    extractLsb'_append_code]
  cases c <;> rfl

theorem State.commandOfWrite_of_unknown {value : Word} (hidle : s.mgmt.busy = none)
    (hcode : CommandName.ofCode (value.setWidth 8) = none) : s.commandOfWrite value = .badCommand value := by
  simp only [State.commandOfWrite, hidle, Option.isSome_none, Bool.false_eq_true, if_false, hcode]

/-- The named command writes its code below the upper bits to CMD. -/
theorem exec_namedCommand (hreset : s.resetN = true) (upper : BitVec 24) (c : CommandName) :
    exec (namedCommand upper c) s = .next (s.writeCommand (upper ++ c.code)) := by
  have hwrite (w : Word) : Host.Outcome.next (if s.resetN then s.writeCommand w else s) =
      (.next (s.writeCommand w) : Host.Outcome State Fault Refusal) := by rw [if_pos hreset]
  cases c <;> exact hwrite _

theorem exec_commandOfWrite (hreset : s.resetN = true) (value : Word) :
    exec (s.commandOfWrite value) s = .next (s.writeCommand value) := by
  have hwrite (w : Word) : Host.Outcome.next (if s.resetN then s.writeCommand w else s) =
      (.next (s.writeCommand w) : Host.Outcome State Fault Refusal) := by rw [if_pos hreset]
  by_cases hidle : s.mgmt.busy = none
  · cases hcode : CommandName.ofCode (value.setWidth 8) with
    | none =>
      rw [State.commandOfWrite_of_unknown hidle hcode]
      exact hwrite value
    | some c =>
      have hvalue : value = value.extractLsb' 8 24 ++ value.setWidth 8 := (append_upper_code value).symm
      have hnamed := State.commandOfWrite_of_code (upper := value.extractLsb' 8 24) hidle hcode
      rw [← hvalue] at hnamed
      rw [hnamed, exec_namedCommand hreset, CommandName.code_of_ofCode hcode, ← hvalue]
  · rw [State.commandOfWrite_of_busy value hidle]
    exact hwrite value

/-- The command of a write has the effect of the write. -/
theorem exec_instrOfWrite (hreset : s.resetN = true) (address : BitVec 16) (value : Word) :
    exec (s.instrOfWrite address value) s = .next (s.writeRegister address value) := by
  simp only [State.instrOfWrite]
  split
  · next r hr =>
    rw [exec_configurationWrite_of_resetN hreset]
    simp only [State.writeRegister, hr]
  · next hconfig =>
    split
    · next r hr =>
      rw [exec_statisticWrite_of_resetN r value hreset]
      simp only [State.writeRegister, hconfig, hr, State.clearStat]
    · next hstat =>
      split
      · next hsummary =>
        change Host.Outcome.next (if s.resetN then s.writeFaults value else s) = _
        simp only [if_pos hreset, State.writeRegister, hconfig, hstat, if_pos hsummary]
      · next hsummary =>
        split
        · next henable =>
          change Host.Outcome.next (if s.resetN then s.writeEnables value else s) = _
          simp only [if_pos hreset, State.writeRegister, hconfig, hstat, if_neg hsummary, if_pos henable]
        · next henable =>
          split
          · next hcommand =>
            rw [exec_commandOfWrite hreset]
            simp only [State.writeRegister, hconfig, hstat, if_neg hsummary, if_neg henable, if_pos hcommand]
          · exact exec_registerWrite_of_resetN hreset address value

theorem State.instrOfWrite_configAddress (r : ConfigReg) (value : Word) :
    s.instrOfWrite (configAddress r) value = .configurationWrite r value := by
  simp only [State.instrOfWrite, configAt_configAddress]

theorem State.instrOfWrite_statAddress (r : StatReg) (value : Word) :
    s.instrOfWrite (statAddress r) value = .statisticWrite r value := by
  simp only [State.instrOfWrite, configAt_statAddress, statAt_statAddress]

theorem State.instrOfWrite_command (value : Word) : s.instrOfWrite 0x0068 value = s.commandOfWrite value := rfl

theorem State.instrOfWrite_of_plain {address : BitVec 16} (hplain : hasOwnWrite address = false) (value : Word) :
    s.instrOfWrite address value = .registerWrite address value := by
  simp only [hasOwnWrite, Bool.or_eq_false_iff, decide_eq_false_iff_not, Option.isSome_eq_false_iff,
    Option.isNone_iff_eq_none] at hplain
  obtain ⟨⟨⟨⟨hconfig, hstat⟩, hsummary⟩, henable⟩, hcommand⟩ := hplain
  simp only [State.instrOfWrite, hconfig, hstat, if_neg hsummary, if_neg henable, if_neg hcommand]

end

/-! ### The bits of a transaction (R160) -/

theorem natToBits_eq_map (n v : Nat) : natToBits n v = (List.range n).map (fun i => v.testBit (n - 1 - i)) := by
  induction n with
  | zero => rfl
  | succ n ih =>
    rw [natToBits, ih, List.range_succ_eq_map, List.map_cons, List.map_map]
    refine congrArg₂ List.cons (by simp) (List.map_congr_left fun i _ => ?_)
    rw [Function.comp_apply, show n + 1 - 1 - i.succ = n - 1 - i by omega]

theorem natToBits_toNat {w : Nat} (x : BitVec w) : natToBits w x.toNat = wireBits x := by
  rw [natToBits_eq_map, wireBits]
  refine List.map_congr_left fun i hi => ?_
  rw [BitVec.getMsbD_eq_getLsbD, decide_eq_true (List.mem_range.mp hi), Bool.true_and, BitVec.getLsbD]

@[simp] theorem wireBits_length {w : Nat} (x : BitVec w) : (wireBits x).length = w := by
  rw [← natToBits_toNat, natToBits_length]

/-- A word reads back from its bits. -/
theorem ofNat_bitsToNat_wireBits {w : Nat} (x : BitVec w) : BitVec.ofNat w (bitsToNat (wireBits x)) = x := by
  rw [← natToBits_toNat, bitsToNat_natToBits, Nat.mod_eq_of_lt x.isLt, BitVec.ofNat_toNat, BitVec.setWidth_eq]

/-- Bits are those of the word that is read from them. -/
theorem wireBits_ofNat_bitsToNat {w : Nat} {l : List Bool} (hl : l.length = w) :
    wireBits (BitVec.ofNat w (bitsToNat l)) = l := by
  subst hl
  rw [← natToBits_toNat, BitVec.toNat_ofNat, Nat.mod_eq_of_lt (bitsToNat_lt l), natToBits_bitsToNat]

theorem spiWriteBits_eq (address : BitVec 16) (value : Word) :
    spiWriteBits address value = wireBits 0xA2#8 ++ wireBits address ++ wireBits value := by
  rw [spiWriteBits, natToBits_toNat, natToBits_toNat, natToBits_toNat]
  rfl

theorem spiReadBits_eq (address : BitVec 16) (data : List Bool) :
    spiReadBits address data = wireBits 0xA1#8 ++ wireBits address ++ data := by
  rw [spiReadBits, natToBits_toNat, natToBits_toNat]
  rfl

section
variable {bits : List Bool}

/-- The command byte and the address of bits that begin with them. -/
theorem spiByte_append (b : Byte) (more : List Bool) : spiByte (wireBits b ++ more) = b := by
  rw [spiByte, List.take_left' (wireBits_length b), ofNat_bitsToNat_wireBits]

theorem spiAddress_append (b : Byte) (address : BitVec 16) (more : List Bool) :
    spiAddress (wireBits b ++ (wireBits address ++ more)) = address := by
  rw [spiAddress, List.drop_left' (wireBits_length b), List.take_left' (wireBits_length address), ofNat_bitsToNat_wireBits]

theorem spiData_append (b : Byte) (address : BitVec 16) (value : Word) (more : List Bool) :
    spiData (wireBits b ++ (wireBits address ++ (wireBits value ++ more))) = value := by
  have hlength : (wireBits b ++ wireBits address).length = 24 := by simp
  rw [spiData, ← List.append_assoc, List.drop_left' hlength, List.take_left' (wireBits_length value),
    ofNat_bitsToNat_wireBits]

theorem spiByte_eq_iff (h : 8 ≤ bits.length) (b : Byte) : spiByte bits = b ↔ bits.take 8 = wireBits b := by
  constructor
  · rintro rfl
    rw [spiByte, wireBits_ofNat_bitsToNat (by rw [List.length_take]; omega)]
  · intro htake
    rw [← List.take_append_drop 8 bits, htake, spiByte_append]

theorem spiRead_eq_some_iff (address : BitVec 16) :
    spiRead bits = some address ↔ ∃ data, bits = spiReadBits address data := by
  constructor
  · intro h
    simp only [spiRead] at h
    split at h
    · next hread =>
      obtain ⟨hlength, hbyte⟩ := hread
      cases h
      have hcommand := (spiByte_eq_iff (by omega) spiReadByte).mp hbyte
      refine ⟨bits.drop 24, ?_⟩
      rw [spiReadBits_eq, spiAddress, wireBits_ofNat_bitsToNat (by rw [List.length_take, List.length_drop]; omega)]
      calc bits = bits.take 8 ++ ((bits.drop 8).take 16 ++ (bits.drop 8).drop 16) := by
            rw [List.take_append_drop, List.take_append_drop]
        _ = _ := by rw [hcommand, List.drop_drop, ← List.append_assoc]; rfl
    · cases h
  · rintro ⟨data, rfl⟩
    rw [spiReadBits_eq, List.append_assoc, spiRead, spiByte_append, spiAddress_append, if_pos ⟨by simp; omega, rfl⟩]

theorem spiWrite_spiWriteBits (address : BitVec 16) (value : Word) (more : List Bool) :
    spiWrite (spiWriteBits address value ++ more) = some (address, value) := by
  rw [spiWriteBits_eq, List.append_assoc, List.append_assoc, spiWrite, spiByte_append, spiAddress_append, spiData_append,
    if_pos ⟨by simp; omega, rfl⟩]

theorem spiRead_of_other_command (h : bits.take 8 ≠ wireBits 0xA1#8) : spiRead bits = none := by
  rw [spiRead, if_neg]
  rintro ⟨hlength, hbyte⟩
  exact h ((spiByte_eq_iff (by omega) _).mp hbyte)

theorem spiWrite_of_other_command (h : bits.take 8 ≠ wireBits 0xA2#8) : spiWrite bits = none := by
  rw [spiWrite, if_neg]
  rintro ⟨hlength, hbyte⟩
  exact h ((spiByte_eq_iff (by omega) _).mp hbyte)

theorem spiWrite_of_short (h : bits.length < 56) : spiWrite bits = none := by
  rw [spiWrite, if_neg]
  rintro ⟨hlength, -⟩
  omega

theorem spiRead_of_short (h : bits.length < 24) : spiRead bits = none := by
  rw [spiRead, if_neg]
  rintro ⟨hlength, -⟩
  omega

theorem take_spiWriteBits (address : BitVec 16) (value : Word) (more : List Bool) :
    (spiWriteBits address value ++ more).take 8 = wireBits 0xA2#8 := by
  rw [spiWriteBits_eq, List.append_assoc, List.append_assoc, List.take_left' (wireBits_length _)]

theorem take_spiReadBits (address : BitVec 16) (data : List Bool) :
    (spiReadBits address data).take 8 = wireBits 0xA1#8 := by
  rw [spiReadBits_eq, List.append_assoc, List.take_left' (wireBits_length _)]

theorem commandBits_ne : wireBits 0xA1#8 ≠ wireBits 0xA2#8 := by decide

end

/-! ### The pins (R160, R170) -/

section
variable {s : State} {bits : List Bool} {v : Word}

theorem State.spiSample_of_no_transaction (b : Bool) (h : s.resetN = false ∨ s.spi = .released ∨ s.spi = .abandoned) :
    s.spiSample b = s := by
  unfold State.spiSample
  rcases h with hlow | hspi | hspi
  · split
    · rw [if_neg (by simp [hlow])]
    · rfl
    · rfl
  · simp only [hspi]
  · simp only [hspi]

theorem State.spiSample_of_full (b : Bool) (hspi : s.spi = .transaction bits v) (hfull : 56 ≤ bits.length) :
    s.spiSample b = s := by
  simp only [State.spiSample, hspi]
  rw [if_neg (by simp; omega)]

theorem State.spiSample_of_room (b : Bool) (hreset : s.resetN = true) (hspi : s.spi = .transaction bits v)
    (hroom : bits.length < 56) :
    s.spiSample b =
      s.putSpi (.transaction (bits ++ [b])
        (((if (bits ++ [b]).length = 24 then spiRead (bits ++ [b]) else none).map s.readRegister).getD v)) := by
  simp only [State.spiSample, hspi]
  rw [if_pos (by simp [hreset, hroom])]
  cases (if (bits ++ [b]).length = 24 then spiRead (bits ++ [b]) else none) <;> rfl

theorem spiReadBits_length (address : BitVec 16) (data : List Bool) :
    (spiReadBits address data).length = 24 + data.length := by
  rw [spiReadBits_eq]
  simp
  omega

/-- A read captures its register with the last bit of its address. -/
theorem State.spiSample_of_address (b : Bool) (hreset : s.resetN = true) (hspi : s.spi = .transaction bits v)
    {address : BitVec 16} (hbits : bits ++ [b] = spiReadBits address []) :
    s.spiSample b = { s with spi := .transaction (bits ++ [b]) (s.readRegister address) } := by
  have hlength : (bits ++ [b]).length = 24 := by rw [hbits, spiReadBits_length]; rfl
  have hroom : bits.length < 56 := by
    rw [List.length_append, List.length_singleton] at hlength
    omega
  rw [State.spiSample_of_room b hreset hspi hroom, if_pos hlength,
    (spiRead_eq_some_iff address).mpr ⟨[], hbits⟩]
  rfl

/-- Every other bit joins the transaction and captures nothing. -/
theorem State.spiSample_of_other (b : Bool) (hreset : s.resetN = true) (hspi : s.spi = .transaction bits v)
    (hroom : bits.length < 56) (hother : ∀ address, bits ++ [b] ≠ spiReadBits address []) :
    s.spiSample b = { s with spi := .transaction (bits ++ [b]) v } := by
  have hnone : (if (bits ++ [b]).length = 24 then spiRead (bits ++ [b]) else none) = none := by
    split
    · next hlength =>
      cases hread : spiRead (bits ++ [b]) with
      | none => rfl
      | some address =>
        obtain ⟨data, hdata⟩ := (spiRead_eq_some_iff address).mp hread
        have hempty : data = [] := by
          rw [hdata, spiReadBits_length] at hlength
          exact List.length_eq_zero_iff.mp (by omega)
        rw [hempty] at hdata
        exact absurd hdata (hother address)
    · rfl
  rw [State.spiSample_of_room b hreset hspi hroom, hnone]
  rfl

theorem State.msdo_of_transaction (hreset : s.resetN = true) (hspi : s.spi = .transaction bits v) :
    s.msdo = some (msdoBit bits v) := by
  simp only [State.msdo, hreset, if_true, hspi]

theorem State.instrOfTransaction_of_write (hreset : s.resetN = true) (hspi : s.spi = .transaction bits v)
    {address : BitVec 16} {value : Word} (hwrite : spiWrite bits = some (address, value)) :
    s.instrOfTransaction = some (s.instrOfWrite address value) := by
  simp only [State.instrOfTransaction, hspi, hreset, if_true, hwrite]

theorem State.instrOfTransaction_of_no_write (hreset : s.resetN = true) (hspi : s.spi = .transaction bits v)
    (hwrite : spiWrite bits = none) :
    s.instrOfTransaction = if spiRead bits = some 0x0014 then some .ntokLo else none := by
  simp only [State.instrOfTransaction, hspi, hreset, if_true, hwrite]
  rfl

theorem msdoBit_of_no_read (hread : spiRead bits = none) : msdoBit bits v = false := by
  simp only [msdoBit, hread, Option.isSome_none, Bool.false_and]

theorem msdoBit_of_full (hfull : 56 ≤ bits.length) : msdoBit bits v = false := by
  simp [msdoBit, Nat.not_lt.mpr hfull]

/-- The data clocks of a read give the captured value, most significant bit first. -/
theorem msdoBit_of_data {address : BitVec 16} {data : List Bool} (hdata : data.length < 32) :
    msdoBit (spiReadBits address data) v = v.getMsbD data.length := by
  have hread := (spiRead_eq_some_iff (bits := spiReadBits address data) address).mpr ⟨data, rfl⟩
  rw [msdoBit, hread, spiReadBits_length, BitVec.getMsbD_eq_getLsbD, decide_eq_true hdata,
    decide_eq_true (show 24 + data.length < 56 by omega), show 55 - (24 + data.length) = 32 - 1 - data.length by omega]
  rfl

/-- What a transaction amounts to, and the level of MSDO, clause by clause. -/
theorem State.transaction_amounts_to (hreset : s.resetN = true) (hspi : s.spi = .transaction bits v) :
    (bits.length < 24 → s.msdo = some false ∧ s.instrOfTransaction = none) ∧
    (56 ≤ bits.length → s.msdo = some false) ∧
    (bits.take 8 ≠ wireBits 0xA1#8 → s.msdo = some false ∧ (bits.length < 56 → s.instrOfTransaction = none)) ∧
    (bits.take 8 ≠ wireBits 0xA1#8 → bits.take 8 ≠ wireBits 0xA2#8 → s.instrOfTransaction = none) ∧
    (∀ (address : BitVec 16) (value : Word) (more : List Bool), bits = spiWriteBits address value ++ more →
      s.instrOfTransaction = some (s.instrOfWrite address value)) ∧
    ∀ (address : BitVec 16) (data : List Bool), bits = spiReadBits address data →
      s.instrOfTransaction = (if address = 0x0014 then some .ntokLo else none) ∧
      (data.length < 32 → s.msdo = some (v.getMsbD data.length)) := by
  have hmsdo := State.msdo_of_transaction hreset hspi
  have hnothing (hwrite : spiWrite bits = none) (hread : spiRead bits = none) : s.instrOfTransaction = none := by
    rw [State.instrOfTransaction_of_no_write hreset hspi hwrite, hread]
    rfl
  refine ⟨fun hshort => ?_, fun hfull => ?_, fun hnotRead => ?_, fun hnotRead hnotWrite => ?_,
    fun address value more hbits => ?_, fun address data hbits => ?_⟩
  · rw [hmsdo, msdoBit_of_no_read (spiRead_of_short hshort)]
    exact ⟨rfl, hnothing (spiWrite_of_short (by omega)) (spiRead_of_short hshort)⟩
  · rw [hmsdo, msdoBit_of_full hfull]
  · rw [hmsdo, msdoBit_of_no_read (spiRead_of_other_command hnotRead)]
    exact ⟨rfl, fun hshort => hnothing (spiWrite_of_short hshort) (spiRead_of_other_command hnotRead)⟩
  · exact hnothing (spiWrite_of_other_command hnotWrite) (spiRead_of_other_command hnotRead)
  · exact State.instrOfTransaction_of_write hreset hspi (by rw [hbits, spiWrite_spiWriteBits])
  · have hread := (spiRead_eq_some_iff (bits := bits) address).mpr ⟨data, hbits⟩
    have hwrite : spiWrite bits = none :=
      spiWrite_of_other_command (by rw [hbits, take_spiReadBits]; exact commandBits_ne)
    refine ⟨?_, fun hdata => ?_⟩
    · rw [State.instrOfTransaction_of_no_write hreset hspi hwrite, hread]
      simp only [Option.some.injEq]
    · rw [hmsdo, hbits, msdoBit_of_data hdata]

end

/-! ### The statement -/

/-- The commands of writes, address by address. -/
theorem State.instrOfWrite_commands (s : State) (value : Word) :
    (∀ r, s.instrOfWrite (configAddress r) value = .configurationWrite r value) ∧
    (∀ r, s.instrOfWrite (statAddress r) value = .statisticWrite r value) ∧
    s.instrOfWrite 0x0030 value = .faultSummaryWrite value ∧ s.instrOfWrite 0x0034 value = .faultEnableWrite value ∧
    (s.mgmt.busy ≠ none → s.instrOfWrite 0x0068 value = .lostCommandWrite value) ∧
    (∀ (code : Byte) (upper : BitVec 24), s.mgmt.busy = none → value = upper ++ code →
      (code = 0x01 → s.instrOfWrite 0x0068 value = .enableDirectory upper) ∧
      (code = 0x02 → s.instrOfWrite 0x0068 value = .loadTokenFloor upper) ∧
      (code = 0x03 → s.instrOfWrite 0x0068 value = .evictAgent upper) ∧
      (∀ c, code = codeOf c → s.instrOfWrite 0x0068 value = .arbiterCommandIssue c upper) ∧
      (code ∉ [0x01#8, 0x02, 0x03, 0x10, 0x11, 0x12, 0x1F] → s.instrOfWrite 0x0068 value = .badCommand value)) ∧
    ∀ address, hasOwnWrite address = false → s.instrOfWrite address value = .registerWrite address value := by
  refine ⟨fun r => State.instrOfWrite_configAddress r value, fun r => State.instrOfWrite_statAddress r value, rfl, rfl,
    fun hbusy => ?_, fun code upper hidle hvalue => ?_, fun address hplain => State.instrOfWrite_of_plain hplain value⟩
  · rw [State.instrOfWrite_command, State.commandOfWrite_of_busy value hbusy]
  · rw [State.instrOfWrite_command, hvalue]
    have hnamed (c : CommandName) (hcode : code = c.code) : s.commandOfWrite (upper ++ code) = namedCommand upper c :=
      State.commandOfWrite_of_code hidle (by rw [hcode, CommandName.ofCode_code])
    refine ⟨hnamed .enableDirectory, hnamed .loadTokenFloor, hnamed .evictAgent, fun c hcode => ?_, fun hunknown => ?_⟩
    · exact hnamed (.arbiter c) (hcode.trans (arbiterCode_eq_codeOf c).symm)
    · exact State.commandOfWrite_of_unknown hidle (by rw [setWidth_append_code, CommandName.ofCode_eq_none hunknown])

/-- Settles O52: the bits of the two transactions, the command of a write, the pins, and the port through the commands. -/
theorem transactionsReadBack : Obligations.TransactionsReadBack := by
  refine ⟨fun address value more => ⟨spiWrite_spiWriteBits address value more, ?_⟩, fun address data => ⟨?_, ?_⟩,
    fun bits => spiWrite_of_short, fun s address value hreset => exec_instrOfWrite hreset address value,
    State.instrOfWrite_commands, fun address value data => ⟨spiWriteBits_eq address value, spiReadBits_eq address data⟩,
    fun s => ⟨rfl, rfl⟩, fun s b => ⟨State.spiSample_of_no_transaction b, fun bits v hreset hspi =>
      ⟨State.spiSample_of_full b hspi, fun address => State.spiSample_of_address b hreset hspi,
        State.spiSample_of_other b hreset hspi⟩⟩,
    fun c s t hpower hexec => exec_spi hpower hexec, fun s => ⟨fun hnone => ?_, fun hreset hspi => ?_,
      fun bits v hreset hspi => State.transaction_amounts_to hreset hspi⟩⟩
  · exact spiRead_of_other_command (by rw [take_spiWriteBits]; exact commandBits_ne.symm)
  · exact (spiRead_eq_some_iff address).mpr ⟨data, rfl⟩
  · exact spiWrite_of_other_command (by rw [take_spiReadBits]; exact commandBits_ne)
  · rcases hnone with hlow | hspi
    · simp only [State.msdo, State.instrOfTransaction, hlow, Bool.false_eq_true, if_false, true_and]
      split <;> rfl
    · simp only [State.msdo, State.instrOfTransaction, hspi, ite_self, true_and]
  · simp only [State.msdo, State.instrOfTransaction, hspi, hreset, if_true, true_and]

end Sys2Proof.Machine
end

section
/-! SUPPORT. Records, memberships and counts read by index: what `MembershipsOk` says of each slot, entry and agent, with
the last settlement of one record left open while an operation works on it (R2 to R6, R10, R13, R45, R54 to R56). -/

namespace Sys2Proof.Machine

open Sys2Proof.Expect

/-! ### Lists and tables -/

/-- A list without repeats has a repeat-free image when no two of its items share a value. -/
theorem nodup_filterMap_iff {α β : Type} {l : List α} {f : α → Option β} (hl : l.Nodup) :
    (l.filterMap f).Nodup ↔ ∀ x ∈ l, ∀ y ∈ l, ∀ b, f x = some b → f y = some b → x = y := by
  induction l with
  | nil => simp
  | cons x l ih =>
    obtain ⟨hx, hl⟩ := List.nodup_cons.mp hl
    have hother : ∀ y ∈ l, y ≠ x := fun y hy he => hx (he ▸ hy)
    cases hfx : f x with
    | none =>
      rw [List.filterMap_cons_none hfx, ih hl]
      simp only [List.mem_cons, forall_eq_or_imp, hfx]
      simp
    | some b =>
      rw [List.filterMap_cons_some hfx, List.nodup_cons, ih hl, List.mem_filterMap]
      constructor
      · rintro ⟨hnew, hpairs⟩ y hy z hz c hyc hzc
        rcases List.mem_cons.mp hy with hyx | hy <;> rcases List.mem_cons.mp hz with hzx | hz
        · rw [hyx, hzx]
        · exact absurd ⟨z, hz, by rw [hzc, ← hyc, hyx, hfx]⟩ hnew
        · exact absurd ⟨y, hy, by rw [hyc, ← hzc, hzx, hfx]⟩ hnew
        · exact hpairs y hy z hz c hyc hzc
      · intro hpairs
        refine ⟨?_, fun y hy z hz c hyc hzc =>
          hpairs y (List.mem_cons_of_mem _ hy) z (List.mem_cons_of_mem _ hz) c hyc hzc⟩
        rintro ⟨y, hy, hyb⟩
        exact hother y hy (hpairs y (List.mem_cons_of_mem _ hy) x List.mem_cons_self b hyb hfx)

section
variable {α : Type} {capacity i : Nat} {t u : Table α}

theorem Table.nodup_of_wf (hwf : Table.wf capacity t = true) : t.Nodup := by
  have hrise := ((Table.wf_iff capacity t).mp hwf).1
  exact List.Nodup.of_map Prod.fst (hrise.imp Nat.ne_of_lt)

/-- Canonical tables that agree but for one index have the same entries at the others. -/
theorem Table.free_perm (ht : Table.wf capacity t = true) (hu : Table.wf capacity u = true)
    (hsame : ∀ j, j ≠ i → Table.get u j = Table.get t j) : (Table.free u i).Perm (Table.free t i) := by
  have htf := Table.wf_free i ht
  have huf := Table.wf_free i hu
  rw [List.perm_ext_iff_of_nodup (Table.nodup_of_wf huf) (Table.nodup_of_wf htf)]
  rintro ⟨j, x⟩
  rw [← Table.get_eq_some_iff huf, ← Table.get_eq_some_iff htf]
  by_cases hj : j = i
  · subst hj
    rw [Table.get_free_self, Table.get_free_self]
  · rw [Table.get_free_of_ne _ hj, Table.get_free_of_ne _ hj, hsame j hj]

/-- Up to order a table is what stands at an index and the entries of the others. -/
theorem Table.perm_toList (ht : Table.wf capacity t = true) (i : Nat) :
    t.Perm ((Table.get t i).toList.map (fun x => (i, x)) ++ Table.free t i) := by
  cases hget : Table.get t i with
  | none => rw [Table.free_of_get_none hget]; exact .refl _
  | some x => exact Table.perm_of_get ht hget

end

/-! ### Counting entries -/

/-- 1 where there is a membership of which `p` holds, and 0 where there is none. -/
def tally (p : Membership → Bool) (o : Option Membership) : Nat := o.toList.countP p

@[simp] theorem tally_none (p : Membership → Bool) : tally p none = 0 := rfl

theorem tally_some (p : Membership → Bool) (m : Membership) : tally p (some m) = if p m = true then 1 else 0 := by
  rw [tally, Option.toList_some, List.countP_singleton]

section
variable {s : State} {i : Nat}

/-- The entries that `p` holds of, counted at one index and at the others. -/
theorem countP_pool (hwf : Table.wf Config.poolSize s.dir.pool = true) (i : Nat) (p : Membership → Bool) :
    s.dir.pool.countP (fun e => p e.2) =
      tally p (s.member i) + (Table.free s.dir.pool i).countP (fun e => p e.2) := by
  rw [(Table.perm_toList hwf i).countP_eq, List.countP_append, List.countP_map]
  rfl

end

/-- The memberships of `a` that hold, that wait, and that have an upgrade pending (R13, R56). -/
def isHoldOf (a : AgentId) (m : Membership) : Bool := decide (m.agent = a ∧ m.role = .hold)
def isWaitOf (a : AgentId) (m : Membership) : Bool := decide (m.agent = a ∧ m.role = .wait)
def isUpgradeOf (a : AgentId) (m : Membership) : Bool := decide (m.agent = a ∧ m.upgradePending = true)

/-- The stamps of an agent's entries (R54). -/
def stampsOf (a : AgentId) (p : Table Membership) : List Stamp :=
  (p.filter (fun e => decide (e.2.agent = a))).map (fun e => e.2.stamp)

theorem countsOk_iff (s : State) (a : AgentId) :
    CountsOk s a ↔
      (s.counts a).holds = s.dir.pool.countP (fun e => isHoldOf a e.2) ∧
        (s.counts a).waits = s.dir.pool.countP (fun e => isWaitOf a e.2) ∧
        (s.counts a).upgrades = s.dir.pool.countP (fun e => isUpgradeOf a e.2) ∧ (stampsOf a s.dir.pool).Nodup := Iff.rfl

/-! ### A record by index -/

section
variable {s : State} {h i : Nat} {r : Record}

theorem holderOk_iff :
    HolderOk s h r i ↔
      ∃ m, s.member i = some m ∧ m.handle = h ∧ m.role = .hold ∧ m.mode = r.mode ∧
        (m.upgradePending = true ↔ r.upgrade = some i) := by
  unfold HolderOk
  cases s.member i <;> simp

theorem waiterOk_iff : WaiterOk s h i ↔ ∃ m, s.member i = some m ∧ m.handle = h ∧ m.role = .wait := by
  unfold WaiterOk
  cases s.member i <;> simp

/-- The members of a LIVE record stand on its lists, once each and of different agents, and its fields allow them (R3 to
R6). -/
structure Attached (s : State) (h : Nat) (r : Record) : Prop where
  holders : ∀ i ∈ r.holders, HolderOk s h r i
  waiters : ∀ i ∈ r.waiters, WaiterOk s h i
  nodup : (r.holders ++ r.waiters).Nodup
  agents : ∀ i ∈ r.holders ++ r.waiters, ∀ j ∈ r.holders ++ r.waiters, ∀ m x, s.member i = some m → s.member j = some x →
    m.agent = x.agent → i = j
  exclusive : r.mode = .exclusive → r.holders.length ≤ 1
  room : r.waiters.length ≤ 7
  upgrade : ∀ i, r.upgrade = some i → i ∈ r.holders ∧ r.mode = .shared

/-- What a grant pass leaves of a record: a sole holder's upgrade, or a queue without holders, only when the sequence is
exhausted (R45, R49). -/
def Settled (s : State) (r : Record) : Prop :=
  (∀ i, r.upgrade = some i → r.holders = [i] → s.dir.nextToken = 0) ∧
    (r.holders = [] → r.waiters ≠ [] ∧ s.dir.nextToken = 0)

theorem recordOk_iff : RecordOk s h r ↔ Attached s h r ∧ Settled s r := by
  have hagents (hnodup : (r.holders ++ r.waiters).Nodup) :
      ((r.holders ++ r.waiters).filterMap (fun i => (s.member i).map Membership.agent)).Nodup ↔
        ∀ i ∈ r.holders ++ r.waiters, ∀ j ∈ r.holders ++ r.waiters, ∀ m x, s.member i = some m → s.member j = some x →
          m.agent = x.agent → i = j := by
    rw [nodup_filterMap_iff hnodup]
    constructor
    · intro hpairs i hi j hj m x hm hx hsame
      exact hpairs i hi j hj x.agent (by rw [hm, Option.map_some, hsame]) (by rw [hx, Option.map_some])
    · intro hpairs i hi j hj b hib hjb
      obtain ⟨m, hm, rfl⟩ := Option.map_eq_some_iff.mp hib
      obtain ⟨x, hx, hsame⟩ := Option.map_eq_some_iff.mp hjb
      exact hpairs i hi j hj m x hm hx hsame.symm
  constructor
  · rintro ⟨hholders, hwaiters, hnodup, hdistinct, hexclusive, hroom, hupgrade, hnobody⟩
    exact ⟨⟨hholders, hwaiters, hnodup, (hagents hnodup).mp hdistinct, hexclusive, hroom,
      fun i hi => ⟨(hupgrade i hi).1, (hupgrade i hi).2.1⟩⟩, fun i hi => (hupgrade i hi).2.2, hnobody⟩
  · rintro ⟨hs, hpending, hnobody⟩
    exact ⟨hs.holders, hs.waiters, hs.nodup, (hagents hs.nodup).mpr hs.agents, hs.exclusive, hs.room,
      fun i hi => ⟨(hs.upgrade i hi).1, (hs.upgrade i hi).2, hpending i hi⟩, hnobody⟩

/-- A record stays as it is attached while its members stay. -/
theorem Attached.of_members {t : State} (hs : Attached s h r)
    (hsame : ∀ i ∈ r.holders ++ r.waiters, t.member i = s.member i) : Attached t h r where
  holders i hi := by
    have := hs.holders i hi
    rw [holderOk_iff] at this ⊢
    rwa [hsame i (List.mem_append_left _ hi)]
  waiters i hi := by
    have := hs.waiters i hi
    rw [waiterOk_iff] at this ⊢
    rwa [hsame i (List.mem_append_right _ hi)]
  nodup := hs.nodup
  agents i hi j hj m x hm hx := hs.agents i hi j hj m x (by rwa [← hsame i hi]) (by rwa [← hsame j hj])
  exclusive := hs.exclusive
  room := hs.room
  upgrade := hs.upgrade

theorem Settled.of_token {t : State} (hs : Settled s r) (htoken : s.dir.nextToken = 0 → t.dir.nextToken = 0) :
    Settled t r :=
  ⟨fun i hi hsole => htoken (hs.1 i hi hsole), fun hnobody => ⟨(hs.2 hnobody).1, htoken (hs.2 hnobody).2⟩⟩

/-- Every membership on the lists of a record names it. -/
theorem Attached.member (hs : Attached s h r) (hi : i ∈ r.holders ++ r.waiters) :
    ∃ m, s.member i = some m ∧ m.handle = h := by
  rcases List.mem_append.mp hi with hi | hi
  · obtain ⟨m, hm, hhandle, -⟩ := holderOk_iff.mp (hs.holders i hi)
    exact ⟨m, hm, hhandle⟩
  · obtain ⟨m, hm, hhandle, -⟩ := waiterOk_iff.mp (hs.waiters i hi)
    exact ⟨m, hm, hhandle⟩

theorem Attached.hold_of_holder {m : Membership} (hs : Attached s h r) (hi : i ∈ r.holders) (hm : s.member i = some m) :
    m.handle = h ∧ m.role = .hold ∧ m.mode = r.mode ∧ (m.upgradePending = true ↔ r.upgrade = some i) := by
  obtain ⟨x, hx, hrest⟩ := holderOk_iff.mp (hs.holders i hi)
  rw [hm] at hx
  cases hx
  exact hrest

theorem Attached.wait_of_waiter {m : Membership} (hs : Attached s h r) (hi : i ∈ r.waiters) (hm : s.member i = some m) :
    m.handle = h ∧ m.role = .wait := by
  obtain ⟨x, hx, hrest⟩ := waiterOk_iff.mp (hs.waiters i hi)
  rw [hm] at hx
  cases hx
  exact hrest

end

/-! ### The whole directory by index -/

/-- Everything that `MembershipsOk` says, but for the settlement of record `h`. -/
structure Census (h : Nat) (s : State) : Prop where
  canonical : TablesCanonical s
  names : ∀ k l r x, s.record k = some r → s.record l = some x → r.ns = x.ns → r.key = x.key → k = l
  attached : ∀ k r, s.record k = some r → Attached s k r
  settled : ∀ k r, k ≠ h → s.record k = some r → Settled s r
  members : ∀ i m, s.member i = some m → MemberOk s (i, m)
  counts : ∀ a, CountsOk s a

section
variable {s : State} {h : Nat}

theorem State.record_iff_mem (hwf : Table.wf Config.slotCount s.dir.slots = true) (h : Nat) (r : Record) :
    s.record h = some r ↔ (h, Slot.live r) ∈ s.dir.slots := by
  rw [← Table.get_eq_some_iff hwf]
  exact ⟨State.slot_of_record, State.record_of_slot⟩

theorem namesOk_iff_record (hwf : Table.wf Config.slotCount s.dir.slots = true) :
    NamesOk s ↔ ∀ k l r x, s.record k = some r → s.record l = some x → r.ns = x.ns → r.key = x.key → k = l := by
  rw [namesOk_iff, nodup_filterMap_iff (Table.nodup_of_wf hwf)]
  constructor
  · intro hpairs k l r x hr hx hns hkey
    have := hpairs (k, .live r) ((State.record_iff_mem hwf k r).mp hr) (l, .live x) ((State.record_iff_mem hwf l x).mp hx)
      (x.ns, x.key) (by simp [nameOf, hns, hkey]) rfl
    exact congrArg Prod.fst this
  · rintro hpairs ⟨k, y⟩ hy ⟨l, z⟩ hz b hyb hzb
    cases y with
    | quarantined _ _ => cases hyb
    | live r =>
      cases z with
      | quarantined _ _ => cases hzb
      | live x =>
        have hr := (State.record_iff_mem hwf k r).mpr hy
        have hx := (State.record_iff_mem hwf l x).mpr hz
        have hname : (r.ns, r.key) = (x.ns, x.key) := Option.some.inj (hyb.trans hzb.symm)
        obtain ⟨hns, hkey⟩ := Prod.mk.inj hname
        obtain rfl := hpairs k l r x hr hx hns hkey
        rw [hr] at hx
        cases hx
        rfl

theorem membershipsOk_iff (h : Nat) (s : State) :
    MembershipsOk s ↔ Census h s ∧ ∀ r, s.record h = some r → Settled s r := by
  constructor
  · rintro ⟨hcanonical, hnames, hslots, hmembers, hcounts⟩
    have hrecord (k : Nat) (r : Record) (hr : s.record k = some r) : RecordOk s k r :=
      hslots _ ((State.record_iff_mem hcanonical.1 k r).mp hr)
    exact ⟨⟨hcanonical, (namesOk_iff_record hcanonical.1).mp hnames, fun k r hr => (recordOk_iff.mp (hrecord k r hr)).1,
      fun k r _ hr => (recordOk_iff.mp (hrecord k r hr)).2,
      fun i m hm => hmembers _ ((Table.get_eq_some_iff hcanonical.2 i m).mp hm), hcounts⟩,
      fun r hr => (recordOk_iff.mp (hrecord h r hr)).2⟩
  · rintro ⟨hs, hsettled⟩
    refine ⟨hs.canonical, (namesOk_iff_record hs.canonical.1).mpr hs.names, ?_, ?_, hs.counts⟩
    · rintro ⟨k, x⟩ hmem
      cases x with
      | quarantined _ _ => exact trivial
      | live r =>
        have hr := (State.record_iff_mem hs.canonical.1 k r).mpr hmem
        refine recordOk_iff.mpr ⟨hs.attached k r hr, ?_⟩
        by_cases hk : k = h
        · subst hk
          exact hsettled r hr
        · exact hs.settled k r hk hr
    · rintro ⟨i, m⟩ hmem
      exact hs.members i m ((Table.get_eq_some_iff hs.canonical.2 i m).mpr hmem)

theorem referenceOk_iff (s : State) (i : Nat) (m : Membership) :
    ReferenceOk s i m ↔
      (∃ r, s.slot m.handle = some (.live r) ∧ i ∈ r.holders ++ r.waiters) ∨
        ∃ r, s.slot m.handle = some (.quarantined false r) := by
  unfold ReferenceOk
  split
  · next hslot => simp [hslot]
  · next r hslot => simp [hslot]
  · next c r hslot => simp [hslot]

/-- A membership of a LIVE record stands on its lists. -/
theorem Census.listed {k i : Nat} {r : Record} {m : Membership} (hs : Census h s) (hr : s.record k = some r)
    (hm : s.member i = some m) (hhandle : m.handle = k) : i ∈ r.holders ++ r.waiters := by
  have hreference := (hs.members i m hm).1
  rw [referenceOk_iff, hhandle, State.slot_of_record hr] at hreference
  rcases hreference with ⟨x, hx, hi⟩ | ⟨x, hx⟩
  · cases hx
    exact hi
  · cases hx

theorem Census.hold_listed {k i : Nat} {r : Record} {m : Membership} (hs : Census h s) (hr : s.record k = some r)
    (hm : s.member i = some m) (hhandle : m.handle = k) (hrole : m.role = .hold) : i ∈ r.holders ∧ i ∉ r.waiters := by
  have hnot : i ∉ r.waiters := fun hi => by
    have := ((hs.attached k r hr).wait_of_waiter hi hm).2
    rw [hrole] at this
    cases this
  rcases List.mem_append.mp (hs.listed hr hm hhandle) with hi | hi
  · exact ⟨hi, hnot⟩
  · exact absurd hi hnot

theorem Census.wait_listed {k i : Nat} {r : Record} {m : Membership} (hs : Census h s) (hr : s.record k = some r)
    (hm : s.member i = some m) (hhandle : m.handle = k) (hrole : m.role = .wait) : i ∈ r.waiters ∧ i ∉ r.holders := by
  have hnot : i ∉ r.holders := fun hi => by
    obtain ⟨-, hhold, -⟩ := (hs.attached k r hr).hold_of_holder hi hm
    rw [hrole] at hhold
    cases hhold
  rcases List.mem_append.mp (hs.listed hr hm hhandle) with hi | hi
  · exact absurd hi hnot
  · exact ⟨hi, hnot⟩

end

end Sys2Proof.Machine
end

section
/-! SUPPORT. One operation on one record: what it may change of the slots, the entries and the counts, and when the directory
stays in order under it (R2 to R6, R10, R13, R54 to R56). -/

namespace Sys2Proof.Machine

open Sys2Proof.Expect

/-! ### The fields of one membership -/

/-- The fields of a membership agree with its role (R54 to R56, Table 1-4). -/
def FieldsOk (m : Membership) : Prop :=
  (m.role = .wait → m.token = 0 ∧ m.upgradePending = false ∧ m.noticed = false) ∧ (m.role = .hold → m.token ≠ 0) ∧
    (m.upgradePending = true → m.mode = .shared) ∧ (m.deadline ≠ none → m.role = .wait ∨ m.upgradePending = true)

/-- The stamp of a membership was given out (R55). -/
def StampOk (c : Counts) (m : Membership) : Prop := m.stamp ≠ 0 ∧ (c.nextStamp ≠ 0 → m.stamp < c.nextStamp)

theorem memberOk_iff (s : State) (i : Nat) (m : Membership) :
    MemberOk s (i, m) ↔
      ReferenceOk s i m ∧ FieldsOk m ∧ (s.session m.agent).state ≠ .closed ∧ StampOk (s.counts m.agent) m := by
  simp only [MemberOk, FieldsOk, StampOk]
  tauto

/-- Where a membership `m` at pool index `i` stands on a record `r` in slot `h` (R3, R4, R6). -/
def Stands (h : Nat) (r : Record) (i : Nat) (m : Membership) : Prop :=
  m.handle = h ∧
    (m.role = .hold ∧ i ∈ r.holders ∧ i ∉ r.waiters ∧ m.mode = r.mode ∧ (m.upgradePending = true ↔ r.upgrade = some i) ∨
      m.role = .wait ∧ i ∈ r.waiters ∧ i ∉ r.holders)

theorem Stands.listed {h i : Nat} {r : Record} {m : Membership} (hstands : Stands h r i m) :
    i ∈ r.holders ++ r.waiters := by
  obtain ⟨-, ⟨-, hi, -⟩ | ⟨-, hi, -⟩⟩ := hstands
  · exact List.mem_append_left _ hi
  · exact List.mem_append_right _ hi

theorem Census.stands {s : State} {h k i : Nat} {r : Record} {m : Membership} (hs : Census h s)
    (hr : s.record k = some r) (hm : s.member i = some m) (hhandle : m.handle = k) : Stands k r i m := by
  refine ⟨hhandle, ?_⟩
  cases hrole : m.role with
  | hold =>
    obtain ⟨hi, hnot⟩ := hs.hold_listed hr hm hhandle hrole
    obtain ⟨-, -, hmode, hup⟩ := (hs.attached k r hr).hold_of_holder hi hm
    exact .inl ⟨rfl, hi, hnot, hmode, hup⟩
  | wait =>
    obtain ⟨hi, hnot⟩ := hs.wait_listed hr hm hhandle hrole
    exact .inr ⟨rfl, hi, hnot⟩

/-! ### What an operation touches -/

/-- An operation on slot `h`, entry `i` and agent `a`: the others stay. -/
structure Touches (h i : Nat) (a : AgentId) (s t : State) : Prop where
  canonical : TablesCanonical s → TablesCanonical t
  sessions : t.sessions = s.sessions
  token : s.dir.nextToken = 0 → t.dir.nextToken = 0
  slot : ∀ k, k ≠ h → t.slot k = s.slot k
  member : ∀ j, j ≠ i → t.member j = s.member j
  counts : ∀ b, b ≠ a → t.counts b = s.counts b

section
variable {h i : Nat} {a : AgentId} {s t : State}

theorem Touches.record (ht : Touches h i a s t) {k : Nat} (hk : k ≠ h) : t.record k = s.record k := by
  simp only [State.record, ht.slot k hk]

theorem Touches.session (ht : Touches h i a s t) (b : AgentId) : t.session b = s.session b := by
  simp only [State.session, ht.sessions]

theorem Touches.reference (ht : Touches h i a s t) {j : Nat} {m : Membership} (hhandle : m.handle ≠ h) :
    ReferenceOk t j m ↔ ReferenceOk s j m := by
  rw [referenceOk_iff, referenceOk_iff, ht.slot _ hhandle]

/-- A record whose members an operation does not touch stays attached. -/
theorem Touches.attached (ht : Touches h i a s t) {k : Nat} {r : Record} (hs : Attached s k r)
    (hi : i ∉ r.holders ++ r.waiters) : Attached t k r :=
  hs.of_members fun j hj => ht.member j (by rintro rfl; exact hi hj)

end

/-! ### Counts (R13, R54, R56) -/

/-- The counts follow an entry that was `o` and is `o'`. -/
structure Recounted (a : AgentId) (o o' : Option Membership) (c c' : Counts) : Prop where
  holds : c'.holds = c.holds - tally (isHoldOf a) o + tally (isHoldOf a) o'
  waits : c'.waits = c.waits - tally (isWaitOf a) o + tally (isWaitOf a) o'
  upgrades : c'.upgrades = c.upgrades - tally (isUpgradeOf a) o + tally (isUpgradeOf a) o'

/-- What an operation makes of the entry of an agent whose counts were `c`: none, one with the old stamp, or one with a
stamp that is given out now (R55). -/
def Stamped (c c' : Counts) (o : Option Membership) (m' : Membership) : Prop :=
  c'.nextStamp = c.nextStamp ∧ (∃ m, o = some m ∧ m'.stamp = m.stamp) ∨
    c.nextStamp ≠ 0 ∧ c'.nextStamp = c.nextStamp + 1 ∧ m'.stamp = c.nextStamp

section
variable {h i : Nat} {a : AgentId} {s t : State}

theorem tally_of_agent {p : Membership → Bool} {o : Option Membership} (hnot : ∀ m ∈ o, p m = false) : tally p o = 0 := by
  cases o with
  | none => rfl
  | some m => rw [tally_some, hnot m rfl]; rfl

theorem stampsOf_perm (hwf : Table.wf Config.poolSize s.dir.pool = true) (i : Nat) (a : AgentId) :
    (stampsOf a s.dir.pool).Perm
      (stampsOf a ((s.member i).toList.map (fun x => (i, x))) ++ stampsOf a (Table.free s.dir.pool i)) := by
  have hperm := ((Table.perm_toList hwf i).filter (fun e => decide (e.2.agent = a))).map (fun e => e.2.stamp)
  rwa [List.filter_append, List.map_append] at hperm

theorem stampsOf_some (a : AgentId) (i : Nat) (m : Membership) :
    stampsOf a ((some m).toList.map (fun x => (i, x))) = if m.agent = a then [m.stamp] else [] := by
  simp only [stampsOf, Option.toList_some, List.map_cons, List.map_nil]
  by_cases hagent : m.agent = a
  · rw [List.filter_cons_of_pos (by simpa using hagent), if_pos hagent]
    rfl
  · rw [List.filter_cons_of_neg (by simpa using hagent), if_neg hagent]
    rfl

/-- The entries that an operation leaves count as before. -/
theorem Touches.free_perm (ht : Touches h i a s t) (hs : TablesCanonical s) :
    (Table.free t.dir.pool i).Perm (Table.free s.dir.pool i) :=
  Table.free_perm hs.2 (ht.canonical hs).2 ht.member

theorem Touches.countP (ht : Touches h i a s t) (hs : TablesCanonical s) (p : Membership → Bool) :
    t.dir.pool.countP (fun e => p e.2) =
      s.dir.pool.countP (fun e => p e.2) - tally p (s.member i) + tally p (t.member i) := by
  rw [countP_pool hs.2 i p, countP_pool (ht.canonical hs).2 i p, (ht.free_perm hs).countP_eq, Nat.add_sub_cancel_left,
    Nat.add_comm]

/-- Another agent's counts stay right: the entry was not its and is not. -/
theorem Touches.countsOk_of_ne (ht : Touches h i a s t) (hs : TablesCanonical s) {b : AgentId} (hb : b ≠ a)
    (hold : ∀ m ∈ s.member i, m.agent = a) (hnew : ∀ m ∈ t.member i, m.agent = a) (hcounts : CountsOk s b) :
    CountsOk t b := by
  have hnot {m : Membership} (hm : m.agent = a) : m.agent ≠ b := fun hsame => hb (hsame.symm.trans hm)
  have hzero (p : Membership → Bool) (hp : ∀ m : Membership, m.agent ≠ b → p m = false) :
      t.dir.pool.countP (fun e => p e.2) = s.dir.pool.countP (fun e => p e.2) := by
    rw [ht.countP hs, tally_of_agent fun m hm => hp m (hnot (hold m hm)),
      tally_of_agent fun m hm => hp m (hnot (hnew m hm))]
    rfl
  rw [countsOk_iff] at hcounts ⊢
  obtain ⟨hholds, hwaits, hupgrades, hstamps⟩ := hcounts
  have hlist {o : Option Membership} (ho : ∀ m ∈ o, m.agent = a) :
      stampsOf b (o.toList.map (fun x => (i, x))) = [] := by
    cases o with
    | none => rfl
    | some m => rw [stampsOf_some, if_neg (hnot (ho m rfl))]
  have hperm : (stampsOf b t.dir.pool).Perm (stampsOf b s.dir.pool) := by
    refine (stampsOf_perm (ht.canonical hs).2 i b).trans (.trans ?_ (stampsOf_perm hs.2 i b).symm)
    rw [hlist hold, hlist hnew]
    exact (((ht.free_perm hs).filter _).map _)
  rw [ht.counts b hb]
  refine ⟨hholds.trans (hzero (isHoldOf b) ?_).symm, hwaits.trans (hzero (isWaitOf b) ?_).symm,
    hupgrades.trans (hzero (isUpgradeOf b) ?_).symm, hperm.nodup_iff.mpr hstamps⟩ <;>
    intro m hm <;> simp [isHoldOf, isWaitOf, isUpgradeOf, hm]

/-- The stamps of an agent's other entries were given out before. -/
theorem Census.stamp_lt (hs : Census h s) {x : Stamp} (hpos : (s.counts a).nextStamp ≠ 0)
    (hx : x ∈ stampsOf a (Table.free s.dir.pool i)) : x < (s.counts a).nextStamp := by
  obtain ⟨⟨j, m⟩, hmem, rfl⟩ := List.mem_map.mp hx
  obtain ⟨hfree, hagent⟩ := List.mem_filter.mp hmem
  have hm : s.member j = some m :=
    (Table.get_eq_some_iff hs.canonical.2 j m).mpr (List.mem_of_mem_filter hfree)
  obtain ⟨-, -, -, -, hlt⟩ := (memberOk_iff s j m).mp (hs.members j m hm)
  obtain rfl : m.agent = a := of_decide_eq_true hagent
  exact hlt hpos

/-- The agent's own counts are right when they follow its entry. -/
theorem Touches.countsOk_self (ht : Touches h i a s t) (hs : Census h s) (hold : ∀ m ∈ s.member i, m.agent = a)
    (hnew : ∀ m ∈ t.member i, m.agent = a ∧ Stamped (s.counts a) (t.counts a) (s.member i) m)
    (hcounts : Recounted a (s.member i) (t.member i) (s.counts a) (t.counts a)) : CountsOk t a := by
  have hbefore := hs.counts a
  rw [countsOk_iff] at hbefore ⊢
  obtain ⟨hholds, hwaits, hupgrades, hstamps⟩ := hbefore
  refine ⟨?_, ?_, ?_, ?_⟩
  · rw [hcounts.holds, hholds, ht.countP hs.canonical]
  · rw [hcounts.waits, hwaits, ht.countP hs.canonical]
  · rw [hcounts.upgrades, hupgrades, ht.countP hs.canonical]
  · have hothers : (stampsOf a (Table.free t.dir.pool i)).Perm (stampsOf a (Table.free s.dir.pool i)) :=
      ((ht.free_perm hs.canonical).filter _).map _
    have hrest := ((stampsOf_perm hs.canonical.2 i a).nodup_iff.mp hstamps)
    refine (stampsOf_perm (ht.canonical hs.canonical).2 i a).nodup_iff.mpr
      (((List.Perm.refl _).append hothers).nodup_iff.mpr ?_)
    cases hm' : t.member i with
    | none => exact (List.nodup_append.mp hrest).2.1
    | some m' =>
      obtain ⟨hagent, hstamped⟩ := hnew m' hm'
      rw [stampsOf_some, if_pos hagent]
      rcases hstamped with ⟨-, m, hm, hsame⟩ | ⟨hpos, -, hnext⟩
      · rw [hm, stampsOf_some, if_pos (hold m hm)] at hrest
        rwa [hsame]
      · refine List.nodup_cons.mpr ⟨fun hmem => ?_, (List.nodup_append.mp hrest).2.1⟩
        have hlt := hs.stamp_lt hpos hmem
        rw [hnext] at hlt
        exact BitVec.lt_irrefl _ hlt

end

/-! ### The directory under one operation -/

section
variable {h i : Nat} {a : AgentId} {s t : State}

/-- The next stamp after one was given out is 0 or greater. -/
theorem stamp_succ (k : Stamp) : k + 1 = 0 ∨ k < k + 1 := by
  by_cases h : k + 1 = 0
  · exact .inl h
  · exact .inr (by bv_omega)

/-- How an agent's next stamp moves. -/
def StampMoves (c c' : Counts) : Prop :=
  c'.nextStamp = c.nextStamp ∨ c.nextStamp ≠ 0 ∧ c'.nextStamp = c.nextStamp + 1

theorem StampOk.moves {c c' : Counts} {m : Membership} (hm : StampOk c m) (hmoves : StampMoves c c') : StampOk c' m := by
  refine ⟨hm.1, fun hpos => ?_⟩
  rcases hmoves with hsame | ⟨hbefore, hnext⟩
  · rw [hsame] at hpos ⊢
    exact hm.2 hpos
  · rw [hnext] at hpos ⊢
    exact BitVec.lt_trans (hm.2 hbefore) ((stamp_succ _).resolve_left hpos)

theorem Stamped.stampOk {c c' : Counts} {o : Option Membership} {m' : Membership} (hstamped : Stamped c c' o m')
    (hold : ∀ m ∈ o, StampOk c m) : StampOk c' m' := by
  rcases hstamped with ⟨hsame, m, hm, hstamp⟩ | ⟨hpos, hnext, hstamp⟩
  · obtain ⟨hzero, hlt⟩ := hold m hm
    rw [StampOk, hstamp, hsame]
    exact ⟨hzero, hlt⟩
  · rw [StampOk, hstamp, hnext]
    exact ⟨hpos, (stamp_succ _).resolve_left⟩

/-- The directory stays in order under an operation on record `h`, entry `i` and agent `a` that leaves these three in
order. -/
theorem Census.touch (hs : Census h s) (ht : Touches h i a s t)
    (hnames : ∀ r' k x, t.record h = some r' → k ≠ h → s.record k = some x → ¬ (x.ns = r'.ns ∧ x.key = r'.key))
    (hattached : ∀ r', t.record h = some r' → Attached t h r')
    (hold : ∀ m ∈ s.member i, m.handle = h ∧ m.agent = a)
    (hnew : ∀ m ∈ t.member i, m.agent = a ∧ FieldsOk m ∧ ReferenceOk t i m ∧ (s.session a).state ≠ .closed ∧
      Stamped (s.counts a) (t.counts a) (s.member i) m)
    (hothers : ∀ j x, j ≠ i → s.member j = some x → x.handle = h → ReferenceOk t j x)
    (hmoves : StampMoves (s.counts a) (t.counts a))
    (hcounts : Recounted a (s.member i) (t.member i) (s.counts a) (t.counts a)) : Census h t := by
  have hagent : ∀ m ∈ s.member i, m.agent = a := fun m hm => (hold m hm).2
  have hmoves' (b : AgentId) : StampMoves (s.counts b) (t.counts b) := by
    by_cases hb : b = a
    · rw [hb]; exact hmoves
    · rw [ht.counts b hb]; exact .inl rfl
  refine ⟨ht.canonical hs.canonical, ?names, ?attached, ?settled, ?members, fun b => ?counts⟩
  case names =>
    intro k l r x hr hx hns hkey
    by_cases hk : k = h <;> by_cases hl : l = h
    · rw [hk, hl]
    · subst hk
      exact absurd ⟨hns.symm, hkey.symm⟩ (hnames r l x hr hl (by rwa [ht.record hl] at hx))
    · subst hl
      exact absurd ⟨hns, hkey⟩ (hnames x k r hx hk (by rwa [ht.record hk] at hr))
    · rw [ht.record hk] at hr
      rw [ht.record hl] at hx
      exact hs.names k l r x hr hx hns hkey
  case attached =>
    intro k r hr
    by_cases hk : k = h
    · subst hk
      exact hattached r hr
    · rw [ht.record hk] at hr
      refine ht.attached (hs.attached k r hr) fun hi => ?_
      obtain ⟨m, hm, hhandle⟩ := (hs.attached k r hr).member hi
      exact hk (hhandle.symm.trans (hold m hm).1)
  case settled =>
    intro k r hk hr
    rw [ht.record hk] at hr
    exact (hs.settled k r hk hr).of_token ht.token
  case members =>
    intro j m hm
    rw [memberOk_iff]
    by_cases hj : j = i
    · subst hj
      obtain ⟨rfl, hfields, hreference, hsession, hstamped⟩ := hnew m hm
      refine ⟨hreference, hfields, by rwa [ht.session], hstamped.stampOk fun x hx => ?_⟩
      obtain ⟨-, -, -, hstamp⟩ := (memberOk_iff s j x).mp (hs.members j x hx)
      rwa [hagent x hx] at hstamp
    · rw [ht.member j hj] at hm
      obtain ⟨hreference, hfields, hsession, hstamp⟩ := (memberOk_iff s j m).mp (hs.members j m hm)
      refine ⟨?_, hfields, by rwa [ht.session], hstamp.moves (hmoves' _)⟩
      by_cases hhandle : m.handle = h
      · exact hothers j m hj hm hhandle
      · exact (ht.reference hhandle).mpr hreference
  case counts =>
    by_cases hb : b = a
    · subst hb
      exact ht.countsOk_self hs hagent (fun m hm => by
        obtain ⟨hm', -, -, -, hstamped⟩ := hnew m hm
        exact ⟨hm', hstamped⟩) hcounts
    · exact ht.countsOk_of_ne hs.canonical hb hagent (fun m hm => (hnew m hm).1) (hs.counts b)

end

end Sys2Proof.Machine
end

section
/-! SUPPORT. One write of a record, an entry and an agent's counts: when it leaves the directory in order, by what becomes of
the membership (R3 to R6, R10, R13, R29 to R31, R55, R56). -/

namespace Sys2Proof.Machine

open Sys2Proof.Expect

/-! ### A record written anew (R3 to R6) -/

/-- `r'` is `r` but for the place of member `i`, and its fields allow its lists. -/
structure Rewrites (i : Nat) (r r' : Record) : Prop where
  ns : r'.ns = r.ns
  key : r'.key = r.key
  holders : ∀ j, j ≠ i → (j ∈ r'.holders ↔ j ∈ r.holders)
  waiters : ∀ j, j ≠ i → (j ∈ r'.waiters ↔ j ∈ r.waiters)
  mode : ∀ j ∈ r'.holders, j ≠ i → r'.mode = r.mode
  upgrade : ∀ j, j ≠ i → (r'.upgrade = some j ↔ r.upgrade = some j)
  nodup : (r'.holders ++ r'.waiters).Nodup
  exclusive : r'.mode = .exclusive → r'.holders.length ≤ 1
  room : r'.waiters.length ≤ 7
  shared : ∀ j, r'.upgrade = some j → j ∈ r'.holders ∧ r'.mode = .shared

section
variable {s t : State} {h i : Nat} {r r' : Record}

theorem Rewrites.listed (hw : Rewrites i r r') {j : Nat} (hj : j ≠ i) :
    j ∈ r'.holders ++ r'.waiters ↔ j ∈ r.holders ++ r.waiters := by
  rw [List.mem_append, List.mem_append, hw.holders j hj, hw.waiters j hj]

/-- The record written anew is attached where the member at `i` stands on it. -/
theorem Attached.rewrite (hs : Attached s h r) (hw : Rewrites i r r') (hmember : ∀ j, j ≠ i → t.member j = s.member j)
    (hgone : t.member i = none → i ∉ r'.holders ++ r'.waiters) (hstands : ∀ m ∈ t.member i, Stands h r' i m)
    (hdistinct : ∀ m ∈ t.member i, ∀ j x, j ∈ r.holders ++ r.waiters → j ≠ i → s.member j = some x →
      x.agent ≠ m.agent) : Attached t h r' where
  holders j hj := by
    rw [holderOk_iff]
    by_cases hji : j = i
    · subst hji
      obtain ⟨m, hm⟩ := Option.ne_none_iff_exists'.mp fun hnone => hgone hnone (List.mem_append_left _ hj)
      obtain ⟨hhandle, ⟨hrole, -, -, hmode, hup⟩ | ⟨-, -, hnot⟩⟩ := hstands m hm
      · exact ⟨m, hm, hhandle, hrole, hmode, hup⟩
      · exact absurd hj hnot
    · obtain ⟨m, hm, hhandle, hrole, hmode, hup⟩ := holderOk_iff.mp (hs.holders j ((hw.holders j hji).mp hj))
      exact ⟨m, (hmember j hji).trans hm, hhandle, hrole, hmode.trans (hw.mode j hj hji).symm,
        hup.trans (hw.upgrade j hji).symm⟩
  waiters j hj := by
    rw [waiterOk_iff]
    by_cases hji : j = i
    · subst hji
      obtain ⟨m, hm⟩ := Option.ne_none_iff_exists'.mp fun hnone => hgone hnone (List.mem_append_right _ hj)
      obtain ⟨hhandle, ⟨-, -, hnot, -⟩ | ⟨hrole, -⟩⟩ := hstands m hm
      · exact absurd hj hnot
      · exact ⟨m, hm, hhandle, hrole⟩
    · obtain ⟨m, hm, hrest⟩ := waiterOk_iff.mp (hs.waiters j ((hw.waiters j hji).mp hj))
      exact ⟨m, (hmember j hji).trans hm, hrest⟩
  nodup := hw.nodup
  agents j hj k hk m x hm hx hsame := by
    by_cases hji : j = i <;> by_cases hki : k = i
    · rw [hji, hki]
    · subst hji
      rw [hmember k hki] at hx
      exact absurd hsame.symm (hdistinct m hm k x ((hw.listed hki).mp hk) hki hx)
    · subst hki
      rw [hmember j hji] at hm
      exact absurd hsame (hdistinct x hx j m ((hw.listed hji).mp hj) hji hm)
    · rw [hmember j hji] at hm
      rw [hmember k hki] at hx
      exact hs.agents j ((hw.listed hji).mp hj) k ((hw.listed hki).mp hk) m x hm hx hsame
  exclusive := hw.exclusive
  room := hw.room
  upgrade := hw.shared

/-- The other members of a record are of other agents (R3). -/
theorem Census.agent_ne {m : Membership} (hs : Census h s) (hr : s.record h = some r) (hm : s.member i = some m)
    (hhandle : m.handle = h) {j : Nat} {x : Membership} (hj : j ∈ r.holders ++ r.waiters) (hne : j ≠ i)
    (hx : s.member j = some x) : x.agent ≠ m.agent := fun hsame =>
  hne ((hs.attached h r hr).agents j hj i (hs.listed hr hm hhandle) x m hx hm hsame)

end

/-! ### One write of a record, an entry and counts -/

/-- An entry written, or freed. -/
def placed (i : Nat) (o : Option Membership) (p : Table Membership) : Table Membership :=
  match o with
  | none => Table.free p i
  | some m => Table.put p i m

theorem get_placed_self (i : Nat) (o : Option Membership) (p : Table Membership) : Table.get (placed i o p) i = o := by
  cases o with
  | none => exact Table.get_free_self p i
  | some m => exact Table.get_put_self p i m

theorem get_placed_of_ne {i j : Nat} (o : Option Membership) (p : Table Membership) (hj : j ≠ i) :
    Table.get (placed i o p) j = Table.get p j := by
  cases o with
  | none => exact Table.get_free_of_ne p hj
  | some m => exact Table.get_put_of_ne p m hj

theorem wf_placed {i : Nat} {p : Table Membership} (o : Option Membership) (hwf : Table.wf Config.poolSize p = true)
    (hi : Table.get p i ≠ none ∨ i < Config.poolSize) : Table.wf Config.poolSize (placed i o p) = true := by
  cases o with
  | none => exact Table.wf_free i hwf
  | some m => exact Table.wf_put_of_used m hwf hi

/-- From `s` to `t` record `h` becomes `r'`, entry `i` becomes `o` and the counts of `a` become `c`. -/
structure Writes (h : Nat) (r' : Record) (i : Nat) (o : Option Membership) (a : AgentId) (c : Counts) (s t : State) :
    Prop where
  slots : t.dir.slots = Table.put s.dir.slots h (sealed r')
  pool : t.dir.pool = placed i o s.dir.pool
  counts : t.dir.counts = Per.put s.dir.counts a c
  token : s.dir.nextToken = 0 → t.dir.nextToken = 0
  sessions : t.sessions = s.sessions

section
variable {s t : State} {h i : Nat} {r r' : Record} {o : Option Membership} {a : AgentId} {c : Counts}

theorem Writes.member_self (ht : Writes h r' i o a c s t) : t.member i = o := by
  rw [State.member, ht.pool, get_placed_self]

theorem Writes.counts_self (ht : Writes h r' i o a c s t) : t.counts a = c := by
  rw [State.counts, ht.counts, Per.get_put_self]

theorem Writes.record_self (ht : Writes h r' i o a c s t) : t.record h = some { r' with checkOk := true } := by
  simp only [State.record, State.slot, ht.slots, Table.get_put_self, sealed]

theorem Writes.touches (ht : Writes h r' i o a c s t) (hr : s.record h ≠ none)
    (hi : s.member i ≠ none ∨ i < Config.poolSize) : Touches h i a s t where
  canonical hs := by
    refine ⟨?_, ?_⟩
    · rw [ht.slots]
      refine Table.wf_put_of_used _ hs.1 (.inl fun hnone => hr ?_)
      simp only [State.record, State.slot, hnone]
    · rw [ht.pool]
      exact wf_placed o hs.2 hi
  sessions := ht.sessions
  token := ht.token
  slot k hk := by simp only [State.slot, ht.slots, Table.get_put_of_ne _ _ hk]
  member j hj := by simp only [State.member, ht.pool, get_placed_of_ne o _ hj]
  counts b hb := by simp only [State.counts, ht.counts, Per.get_put_of_ne _ _ hb]

/-- The directory stays in order under one write that rewrites the record and puts the entry where the record says. -/
theorem Census.written (hs : Census h s) (hr : s.record h = some r) (ht : Writes h r' i o a c s t)
    (hi : s.member i ≠ none ∨ i < Config.poolSize) (hw : Rewrites i r r')
    (hold : ∀ m ∈ s.member i, m.handle = h ∧ m.agent = a) (hgone : o = none → i ∉ r'.holders ++ r'.waiters)
    (hnew : ∀ m ∈ o, m.agent = a ∧ FieldsOk m ∧ Stands h r' i m ∧ (s.session a).state ≠ .closed ∧
      Stamped (s.counts a) c (s.member i) m)
    (hdistinct : ∀ j x, j ∈ r.holders ++ r.waiters → j ≠ i → s.member j = some x → x.agent ≠ a)
    (hmoves : StampMoves (s.counts a) c) (hcounts : Recounted a (s.member i) o (s.counts a) c) : Census h t := by
  have htouch := ht.touches (by simp [hr]) hi
  have hslot := State.slot_of_record ht.record_self
  have hreference {j : Nat} {m : Membership} (hhandle : m.handle = h) (hj : j ∈ r'.holders ++ r'.waiters) :
      ReferenceOk t j m := by
    rw [referenceOk_iff, hhandle]
    exact .inl ⟨_, hslot, hj⟩
  have hsame {x : Record} (hx : t.record h = some x) : x = { r' with checkOk := true } :=
    Option.some.inj (hx.symm.trans ht.record_self)
  refine hs.touch htouch (fun x k y hx hk hy => ?names) (fun x hx => ?attached) hold (fun m hm => ?new)
    (fun j x hj hx hhandle => ?others) (by rwa [ht.counts_self]) (by rwa [ht.counts_self, ht.member_self])
  case names =>
    rw [hsame hx]
    rintro ⟨hns, hkey⟩
    exact hk (hs.names k h y r hy hr (hns.trans hw.ns) (hkey.trans hw.key))
  case attached =>
    rw [hsame hx]
    have hattached : Attached t h r' := (hs.attached h r hr).rewrite hw htouch.member (by rwa [ht.member_self])
      (fun m hm => by rw [ht.member_self] at hm; exact (hnew m hm).2.2.1)
      (fun m hm j y hj hne hy => by
        rw [ht.member_self] at hm
        rw [(hnew m hm).1]
        exact hdistinct j y hj hne hy)
    exact { hattached with }
  case new =>
    rw [ht.member_self] at hm
    obtain ⟨hagent, hfields, hstands, hsession, hstamped⟩ := hnew m hm
    exact ⟨hagent, hfields, hreference hstands.1 hstands.listed, hsession, by rwa [ht.counts_self]⟩
  case others =>
    exact hreference hhandle ((hw.listed hj).mpr (hs.listed hr hx hhandle))

/-- A membership of the record changes and stays. -/
theorem Census.changed {m m' : Membership} (hs : Census h s) (hr : s.record h = some r) (hm : s.member i = some m)
    (hhandle : m.handle = h) (ht : Writes h r' i (some m') m.agent c s t) (hw : Rewrites i r r')
    (hagent : m'.agent = m.agent) (hstamp : m'.stamp = m.stamp) (hfields : FieldsOk m') (hstands : Stands h r' i m')
    (hnext : c.nextStamp = (s.counts m.agent).nextStamp)
    (hcounts : Recounted m.agent (some m) (some m') (s.counts m.agent) c) : Census h t := by
  obtain ⟨-, -, hsession, -⟩ := (memberOk_iff s i m).mp (hs.members i m hm)
  refine hs.written hr ht (.inl (by simp [hm])) hw (fun x hx => ?_) (fun hnone => by cases hnone) (fun x hx => ?_)
    (fun j x hj hne hx => hs.agent_ne hr hm hhandle hj hne hx) (.inl hnext) (by rwa [hm])
  · obtain rfl := Option.some.inj (hm.symm.trans hx)
    exact ⟨hhandle, rfl⟩
  · obtain rfl := Option.some.inj hx
    exact ⟨hagent, hfields, hstands, hsession, .inl ⟨hnext, m, hm, hstamp⟩⟩

/-- A membership of the record is removed (R29, R30). -/
theorem Census.removed {m : Membership} (hs : Census h s) (hr : s.record h = some r) (hm : s.member i = some m)
    (hhandle : m.handle = h) (ht : Writes h r' i none m.agent c s t) (hw : Rewrites i r r')
    (hgone : i ∉ r'.holders ++ r'.waiters) (hnext : c.nextStamp = (s.counts m.agent).nextStamp)
    (hcounts : Recounted m.agent (some m) none (s.counts m.agent) c) : Census h t := by
  refine hs.written hr ht (.inl (by simp [hm])) hw (fun x hx => ?_) (fun _ => hgone) (fun x hx => by cases hx)
    (fun j x hj hne hx => hs.agent_ne hr hm hhandle hj hne hx) (.inl hnext) (by rwa [hm])
  obtain rfl := Option.some.inj (hm.symm.trans hx)
  exact ⟨hhandle, rfl⟩

/-- A membership of an agent that has none on the record is made (R7, R34, R36). -/
theorem Census.made {m' : Membership} (hs : Census h s) (hr : s.record h = some r) (hfree : s.member i = none)
    (hi : i < Config.poolSize) (ht : Writes h r' i (some m') m'.agent c s t) (hw : Rewrites i r r')
    (hfields : FieldsOk m') (hstands : Stands h r' i m') (hopen : (s.session m'.agent).state ≠ .closed)
    (hpos : (s.counts m'.agent).nextStamp ≠ 0) (hstamp : m'.stamp = (s.counts m'.agent).nextStamp)
    (hnext : c.nextStamp = (s.counts m'.agent).nextStamp + 1)
    (hdistinct : ∀ j x, j ∈ r.holders ++ r.waiters → s.member j = some x → x.agent ≠ m'.agent)
    (hcounts : Recounted m'.agent none (some m') (s.counts m'.agent) c) : Census h t := by
  refine hs.written hr ht (.inr hi) hw (fun x hx => ?_) (fun hnone => by cases hnone) (fun x hx => ?_)
    (fun j x hj _ hx => hdistinct j x hj hx) (.inr ⟨hpos, hnext⟩) (by rwa [hfree])
  · rw [hfree] at hx
    cases hx
  · obtain rfl := Option.some.inj hx
    exact ⟨rfl, hfields, hstands, hopen, .inr ⟨hpos, hnext, hstamp⟩⟩

end

/-! ### What leaves the directory alone -/

section
variable {s t : State} {h i : Nat} {r : Record}

/-- The counts of `a` stay, but for the next stamp of an agent without memberships (R80). -/
structure CountsKept (s t : State) (a : AgentId) : Prop where
  holds : (t.counts a).holds = (s.counts a).holds
  waits : (t.counts a).waits = (s.counts a).waits
  upgrades : (t.counts a).upgrades = (s.counts a).upgrades
  nextStamp : (t.counts a).nextStamp = (s.counts a).nextStamp ∨ ∀ j m, s.member j = some m → m.agent ≠ a

theorem CountsKept.of_eq {a : AgentId} (hcounts : t.counts a = s.counts a) : CountsKept s t a :=
  ⟨by rw [hcounts], by rw [hcounts], by rw [hcounts], .inl (by rw [hcounts])⟩

/-- The directory and the sessions of its members decide its order. -/
theorem Census.of_dir (hs : Census h s) (hslots : t.dir.slots = s.dir.slots) (hpool : t.dir.pool = s.dir.pool)
    (hcounts : ∀ a, CountsKept s t a) (htoken : s.dir.nextToken = 0 → t.dir.nextToken = 0)
    (hsessions : ∀ j m, s.member j = some m → (s.session m.agent).state ≠ .closed → (t.session m.agent).state ≠ .closed) :
    Census h t := by
  have hslot (k : Nat) : t.slot k = s.slot k := by rw [State.slot, State.slot, hslots]
  have hrecord (k : Nat) : t.record k = s.record k := by rw [State.record, State.record, hslot]
  have hmember (j : Nat) : t.member j = s.member j := by rw [State.member, State.member, hpool]
  refine ⟨?canonical, ?names, fun k r hr => ?attached, fun k r hk hr => ?settled, fun j m hm => ?members, fun a => ?counts⟩
  case canonical =>
    rw [TablesCanonical, hslots, hpool]
    exact hs.canonical
  case names =>
    intro k l r x hr hx
    rw [hrecord] at hr hx
    exact hs.names k l r x hr hx
  case attached =>
    rw [hrecord] at hr
    exact (hs.attached k r hr).of_members fun j _ => hmember j
  case settled =>
    rw [hrecord] at hr
    exact (hs.settled k r hk hr).of_token htoken
  case members =>
    rw [hmember] at hm
    have hmemberOk := hs.members j m hm
    rw [memberOk_iff, referenceOk_iff] at hmemberOk ⊢
    obtain ⟨hreference, hfields, hsession, hstamp⟩ := hmemberOk
    refine ⟨by rwa [hslot], hfields, hsessions j m hm hsession, hstamp.1, ?_⟩
    rw [(hcounts m.agent).nextStamp.resolve_right fun hnobody => hnobody j m hm rfl]
    exact hstamp.2
  case counts =>
    have hbefore := hs.counts a
    rw [countsOk_iff] at hbefore ⊢
    rw [(hcounts a).holds, (hcounts a).waits, (hcounts a).upgrades, hpool]
    exact hbefore

/-- An entry is written, and what the record says of it stays. -/
structure Notes (i : Nat) (m m' : Membership) (s t : State) : Prop where
  slots : t.dir.slots = s.dir.slots
  pool : t.dir.pool = Table.put s.dir.pool i m'
  counts : t.dir.counts = s.dir.counts
  token : t.dir.nextToken = s.dir.nextToken
  sessions : t.sessions = s.sessions
  agent : m'.agent = m.agent
  handle : m'.handle = m.handle
  role : m'.role = m.role
  mode : m'.mode = m.mode
  upgradePending : m'.upgradePending = m.upgradePending
  stamp : m'.stamp = m.stamp

theorem Attached.rewrites_refl (hs : Attached s h r) (i : Nat) : Rewrites i r r where
  ns := rfl
  key := rfl
  holders _ _ := Iff.rfl
  waiters _ _ := Iff.rfl
  mode _ _ _ := rfl
  upgrade _ _ := Iff.rfl
  nodup := hs.nodup
  exclusive := hs.exclusive
  room := hs.room
  shared := hs.upgrade

theorem Census.noted {m m' : Membership} (hs : Census h s) (hm : s.member i = some m)
    (hhandle : m.handle = h) (ht : Notes i m m' s t) (hfields : FieldsOk m') : Census h t := by
  have hself : t.member i = some m' := by rw [State.member, ht.pool, Table.get_put_self]
  have hcount (a : AgentId) : t.counts a = s.counts a := by rw [State.counts, State.counts, ht.counts]
  have hslot (k : Nat) : t.slot k = s.slot k := by rw [State.slot, State.slot, ht.slots]
  have htouch : Touches h i m.agent s t :=
    { canonical := fun hc => ⟨by rw [ht.slots]; exact hc.1, by
        rw [ht.pool]
        exact Table.wf_put_of_used _ hc.2 (.inl (by simp only [State.member] at hm; simp [hm]))⟩
      sessions := ht.sessions
      token := fun hzero => ht.token.trans hzero
      slot := fun k _ => hslot k
      member := fun j hj => by rw [State.member, State.member, ht.pool, Table.get_put_of_ne _ _ hj]
      counts := fun b _ => hcount b }
  have hrecord : t.record h = s.record h := by rw [State.record, State.record, hslot]
  obtain ⟨hreference, -, hsession, -⟩ := (memberOk_iff s i m).mp (hs.members i m hm)
  have hkept {j : Nat} {x : Membership} (hx : ReferenceOk s j x) : ReferenceOk t j x := by
    rwa [referenceOk_iff, hslot, ← referenceOk_iff]
  have hnew {P : Membership → Prop} (hP : P m') : ∀ x ∈ t.member i, P x := by
    intro x hx
    obtain rfl := Option.some.inj (hself.symm.trans hx)
    exact hP
  refine hs.touch htouch (fun x k y hx hk hy => ?names) (fun x hx => ?attached) (fun x hx => ?old) (hnew ?new)
    (fun j x _ hx _ => hkept ((memberOk_iff s j x).mp (hs.members j x hx)).1) (.inl (by rw [hcount])) ?counts
  case names =>
    rw [hrecord] at hx
    rintro ⟨hns, hkey⟩
    exact hk (hs.names k h y x hy hx hns hkey)
  case attached =>
    rw [hrecord] at hx
    have hstands : Stands h x i m' := by
      have hbefore := hs.stands hx hm hhandle
      simpa only [Stands, ht.handle, ht.role, ht.mode, ht.upgradePending] using hbefore
    refine (hs.attached h x hx).rewrite ((hs.attached h x hx).rewrites_refl i) htouch.member
      (fun hnone => by rw [hself] at hnone; cases hnone) (hnew hstands) (hnew fun j y hj hne hy => ?_)
    rw [ht.agent]
    exact hs.agent_ne hx hm hhandle hj hne hy
  case old =>
    obtain rfl := Option.some.inj (hm.symm.trans hx)
    exact ⟨hhandle, rfl⟩
  case new =>
    refine ⟨ht.agent, hfields, hkept ?_, hsession, .inl ⟨by rw [hcount], m, hm, ht.stamp⟩⟩
    rwa [referenceOk_iff, ht.handle, ← referenceOk_iff]
  case counts =>
    have hbefore := (countsOk_iff s m.agent).mp (hs.counts m.agent)
    rw [hcount, hm, hself]
    have hsame (p : Membership → Bool) (hp : p m' = p m) {c : Nat} (hc : c = s.dir.pool.countP (fun e => p e.2)) :
        c = c - tally p (some m) + tally p (some m') := by
      rw [countP_pool hs.canonical.2 i p, hm] at hc
      simp only [tally_some, hp] at hc ⊢
      omega
    obtain ⟨hholds, hwaits, hupgrades, -⟩ := hbefore
    exact ⟨hsame _ (by simp only [isHoldOf, ht.agent, ht.role]) hholds,
      hsame _ (by simp only [isWaitOf, ht.agent, ht.role]) hwaits,
      hsame _ (by simp only [isUpgradeOf, ht.agent, ht.upgradePending]) hupgrades⟩

end

end Sys2Proof.Machine
end

section
/-! SUPPORT. The removals, grants, changes of mode and notices of one record leave the directory in order (R24, R29 to R31,
R39 to R41, R45 to R48). -/

namespace Sys2Proof.Machine

open Sys2Proof.Expect

/-! ### Records written anew -/

section
variable {s : State} {h i : Nat} {r : Record}

/-- The record without holder `i`, whose pending upgrade goes with it (R29). -/
theorem Attached.without_holder (hs : Attached s h r) {u : Option Nat}
    (hu : ∀ j, u = some j ↔ r.upgrade = some j ∧ j ≠ i) :
    Rewrites i r { r with holders := r.holders.filter (fun j => decide (j ≠ i)), upgrade := u } where
  ns := rfl
  key := rfl
  holders j hj := by simp [hj]
  waiters _ _ := Iff.rfl
  mode _ _ _ := rfl
  upgrade j hj := by rw [hu, and_iff_left hj]
  nodup := hs.nodup.sublist (List.filter_sublist.append (.refl _))
  exclusive hmode := Nat.le_trans (List.length_filter_le _ _) (hs.exclusive hmode)
  room := hs.room
  shared j hj := by
    obtain ⟨hup, hne⟩ := (hu j).mp hj
    obtain ⟨hholder, hmode⟩ := hs.upgrade j hup
    exact ⟨List.mem_filter.mpr ⟨hholder, by simpa using hne⟩, hmode⟩

/-- The record without waiter `i` (R30). -/
theorem Attached.without_waiter (hs : Attached s h r) :
    Rewrites i r { r with waiters := r.waiters.filter (fun j => decide (j ≠ i)) } where
  ns := rfl
  key := rfl
  holders _ _ := Iff.rfl
  waiters j hj := by simp [hj]
  mode _ _ _ := rfl
  upgrade _ _ := Iff.rfl
  nodup := hs.nodup.sublist ((List.Sublist.refl _).append List.filter_sublist)
  exclusive := hs.exclusive
  room := Nat.le_trans (List.length_filter_le _ _) hs.room
  shared := hs.upgrade

/-- The record without the pending upgrade of `i` (R31). -/
theorem Attached.without_upgrade (hs : Attached s h r) (hup : r.upgrade = some i) :
    Rewrites i r { r with upgrade := none } where
  ns := rfl
  key := rfl
  holders _ _ := Iff.rfl
  waiters _ _ := Iff.rfl
  mode _ _ _ := rfl
  upgrade j hj := by simp [hup, Ne.symm hj]
  nodup := hs.nodup
  exclusive := hs.exclusive
  room := hs.room
  shared j hj := by cases hj

/-- The record in another mode, which its sole holder takes (R39, R40, R45). -/
theorem Attached.with_mode (hs : Attached s h r) (hsole : r.holders = [i]) (hnone : r.upgrade = none) (mode : Mode) :
    Rewrites i r { r with mode := mode } where
  ns := rfl
  key := rfl
  holders _ _ := Iff.rfl
  waiters _ _ := Iff.rfl
  mode j hj hne := by
    rw [hsole] at hj
    exact absurd (List.mem_singleton.mp hj) hne
  upgrade _ _ := Iff.rfl
  nodup := hs.nodup
  exclusive _ := by rw [hsole]; rfl
  room := hs.room
  shared j hj := by
    rw [hnone] at hj
    cases hj

/-- The record with the pending upgrade of holder `i` (R41). -/
theorem Attached.with_upgrade (hs : Attached s h r) (hi : i ∈ r.holders) (hmode : r.mode = .shared)
    (hnone : r.upgrade = none) : Rewrites i r { r with upgrade := some i } where
  ns := rfl
  key := rfl
  holders _ _ := Iff.rfl
  waiters _ _ := Iff.rfl
  mode _ _ _ := rfl
  upgrade j hj := by simp [hnone, Ne.symm hj]
  nodup := hs.nodup
  exclusive := hs.exclusive
  room := hs.room
  shared j hj := by
    obtain rfl := Option.some.inj hj
    exact ⟨hi, hmode⟩

/-- The record whose waiter `i` has become a holder in mode `mode` (R48). -/
theorem Attached.with_granted (hs : Attached s h r) (hi : i ∈ r.waiters) (hnone : r.upgrade = none) {mode : Mode}
    (hmode : r.holders ≠ [] → mode = r.mode ∧ r.mode = .shared) :
    Rewrites i r
      { r with
        mode := mode, waiters := r.waiters.filter (fun j => decide (j ≠ i)), holders := r.holders ++ [i] } where
  ns := rfl
  key := rfl
  holders j hj := by simp [hj]
  waiters j hj := by simp [hj]
  mode j hj hne := by
    rcases List.mem_append.mp hj with hj | hj
    · exact (hmode (List.ne_nil_of_mem hj)).1
    · exact absurd (List.mem_singleton.mp hj) hne
  upgrade _ _ := Iff.rfl
  nodup := by
    obtain ⟨hholders, hwaiters, hdisjoint⟩ := List.nodup_append.mp hs.nodup
    rw [List.append_assoc, List.singleton_append, List.nodup_append]
    refine ⟨hholders, List.nodup_cons.mpr ⟨by simp, hwaiters.filter _⟩, fun j hj k hk => ?_⟩
    rcases List.mem_cons.mp hk with rfl | hk
    · exact hdisjoint j hj k hi
    · exact hdisjoint j hj k (List.mem_of_mem_filter hk)
  exclusive hexclusive := by
    by_cases hholders : r.holders = []
    · simp [hholders]
    · obtain ⟨hsame, hshared⟩ := hmode hholders
      rw [hsame, hshared] at hexclusive
      cases hexclusive
  room := Nat.le_trans (List.length_filter_le _ _) hs.room
  shared j hj := by
    rw [hnone] at hj
    cases hj

end

/-! ### Removals (R29 to R31) -/

section
variable {s t : State} {h i : Nat} {r r' : Record} {m : Membership} {o : Option Membership} {a : AgentId} {c : Counts}

/-- The Deadline Unit is no part of the directory. -/
theorem Writes.of_undue (ht : Writes h r' i o a c (undue i m s) t) : Writes h r' i o a c s t := by
  unfold undue at ht
  split at ht
  · exact { ht with }
  · exact ht

theorem Census.fields {j : Nat} (hs : Census h s) (hm : s.member j = some m) : FieldsOk m :=
  ((memberOk_iff s j m).mp (hs.members j m hm)).2.1

/-- A waiter has no pending upgrade, token or notice (R54, R56). -/
theorem FieldsOk.of_wait (hfields : FieldsOk m) (hrole : m.role = .wait) :
    m.token = 0 ∧ m.upgradePending = false ∧ m.noticed = false := hfields.1 hrole

theorem Census.pending_iff (hs : Census h s) (hr : s.record h = some r) (hm : s.member i = some m) (hhandle : m.handle = h)
    (hrole : m.role = .hold) : m.upgradePending = true ↔ r.upgrade = some i :=
  ((hs.attached h r hr).hold_of_holder (hs.hold_listed hr hm hhandle hrole).1 hm).2.2.2

/-- A pending upgrade is that of a holder. -/
theorem Census.hold_of_upgrade (hs : Census h s) (hr : s.record h = some r) (hup : r.upgrade = some i) :
    ∃ m, s.member i = some m ∧ m.handle = h ∧ m.role = .hold ∧ m.upgradePending = true ∧ m.mode = .shared ∧
      r.mode = .shared ∧ i ∈ r.holders := by
  obtain ⟨hi, hmode⟩ := (hs.attached h r hr).upgrade i hup
  obtain ⟨m, hm, hhandle, hrole, hsame, hpending⟩ := holderOk_iff.mp ((hs.attached h r hr).holders i hi)
  exact ⟨m, hm, hhandle, hrole, hpending.mpr hup, hsame.trans hmode, hmode, hi⟩

/-- The agent of a hold counts it (R13). -/
theorem Census.holds_pos (hs : Census h s) (hm : s.member i = some m) (hrole : m.role = .hold) :
    1 ≤ (s.counts m.agent).holds := by
  obtain ⟨hholds, -⟩ := (countsOk_iff s m.agent).mp (hs.counts m.agent)
  rw [hholds, countP_pool hs.canonical.2 i (isHoldOf m.agent), hm, tally_some, isHoldOf, hrole]
  simp

theorem Census.removeHold (hs : Census h s) (hr : s.record h = some r) (hm : s.member i = some m) (hhandle : m.handle = h)
    (hrole : m.role = .hold) : Census h (s.removeHold h i) := by
  have hnot := (hs.hold_listed hr hm hhandle hrole).2
  have hpending := hs.pending_iff hr hm hhandle hrole
  have hattached := hs.attached h r hr
  have hgone : i ∉ r.holders.filter (fun j => decide (j ≠ i)) ++ r.waiters := by
    rw [List.mem_append]
    rintro (hi | hi)
    · simp at hi
    · exact hnot hi
  cases hup : m.upgradePending with
  | false =>
    have hother (j : Nat) : r.upgrade = some j ↔ r.upgrade = some j ∧ j ≠ i := by
      refine ⟨fun hj => ⟨hj, ?_⟩, And.left⟩
      rintro rfl
      rw [hpending.mpr hj] at hup
      cases hup
    rw [State.removeHold_of_plain hr hm hrole hup]
    refine hs.removed hr hm hhandle ⟨rfl, rfl, rfl, id, rfl⟩ (hattached.without_holder hother) hgone rfl ?_
    constructor <;> simp [tally_some, isHoldOf, isWaitOf, isUpgradeOf, hrole, hup]
  | true =>
    have hnone (j : Nat) : none = some j ↔ r.upgrade = some j ∧ j ≠ i := by simp [hpending.mp hup, eq_comm]
    rw [State.removeHold_of_upgrade hr hm hrole hup]
    refine hs.removed hr hm hhandle (Writes.of_undue ⟨rfl, rfl, rfl, id, rfl⟩) (hattached.without_holder hnone)
      hgone rfl ?_
    constructor <;> simp [tally_some, isHoldOf, isWaitOf, isUpgradeOf, hrole, hup]

theorem Census.removeWait (hs : Census h s) (hr : s.record h = some r) (hm : s.member i = some m) (hhandle : m.handle = h)
    (hrole : m.role = .wait) : Census h (s.removeWait h i) := by
  have hnot := (hs.wait_listed hr hm hhandle hrole).2
  obtain ⟨-, hup, -⟩ := (hs.fields hm).of_wait hrole
  have hgone : i ∉ r.holders ++ r.waiters.filter (fun j => decide (j ≠ i)) := by
    rw [List.mem_append]
    rintro (hi | hi)
    · exact hnot hi
    · simp at hi
  rw [State.removeWait_eq hr hm hrole]
  refine hs.removed hr hm hhandle (Writes.of_undue ⟨rfl, rfl, rfl, id, rfl⟩) (hs.attached h r hr).without_waiter hgone rfl
    ?_
  constructor <;> simp [tally_some, isHoldOf, isWaitOf, isUpgradeOf, hrole, hup]

theorem Census.clearUpgrade (hs : Census h s) (hr : s.record h = some r) (hup : r.upgrade = some i) :
    Census h (s.clearUpgrade h i) := by
  obtain ⟨m, hm, hhandle, hrole, hpending, hmode, hshared, hi⟩ := hs.hold_of_upgrade hr hup
  have hnot := (hs.hold_listed hr hm hhandle hrole).2
  have htoken := (hs.fields hm).2.1 hrole
  rw [State.clearUpgrade_eq hr hm]
  refine hs.changed hr hm hhandle (m' := { m with upgradePending := false, deadline := none, checkOk := true })
    (Writes.of_undue ⟨rfl, rfl, rfl, id, rfl⟩) ((hs.attached h r hr).without_upgrade hup) rfl rfl ?_
    ⟨hhandle, .inl ⟨hrole, hi, hnot, hmode.trans hshared.symm, by simp⟩⟩ rfl ?_
  · exact ⟨fun hwait => absurd (hrole.symm.trans hwait) (by simp), fun _ => htoken, fun hno => absurd hno (by simp),
      fun hno => absurd rfl hno⟩
  · have hpos := hs.holds_pos hm hrole
    constructor <;> simp [tally_some, isHoldOf, isWaitOf, isUpgradeOf, hrole, hpending]
    omega

end

/-! ### Grants and changes of mode (R39, R40, R45, R48) -/

section
variable {s t : State} {h i : Nat} {r : Record} {m : Membership}

theorem Census.moderator (hs : Census h s) (hst : ModeratorFrame s t) : Census h t :=
  hs.of_dir (by rw [hst.dir]) (by rw [hst.dir]) (fun a => .of_eq (by rw [State.counts, State.counts, hst.dir]))
    (by rw [hst.dir]; exact id) fun j m _ => by rw [State.session, State.session, hst.sessions]; exact id

theorem Census.counted (hs : Census h s) (k : StatReg) : Census h (counted k s) :=
  hs.of_dir rfl rfl (fun _ => .of_eq rfl) id fun _ _ _ => id

/-- A record that can take a waiter has no pending upgrade. -/
theorem Attached.no_upgrade_of_takes (hs : Attached s h r) (htakes : Takes r) : r.upgrade = none := by
  rcases htakes with hnobody | ⟨-, hnone⟩
  · refine Option.eq_none_iff_forall_not_mem.mpr fun j hj => ?_
    have hholder := (hs.upgrade j hj).1
    rw [hnobody] at hholder
    cases hholder
  · exact hnone

theorem Census.grantWaiter {ws : List Nat} (hs : Census h s) (hr : s.record h = some r) (htakes : Takes r)
    (hwaiters : r.waiters = i :: ws) (hm : s.member i = some m) (hfree : ¬ Withheld s r m) :
    Census h (s.grantWaiter h i) := by
  have hattached := hs.attached h r hr
  have hi : i ∈ r.waiters := by rw [hwaiters]; exact List.mem_cons_self
  obtain ⟨hhandle, hrole⟩ := hattached.wait_of_waiter hi hm
  obtain ⟨-, hup, -⟩ := (hs.fields hm).of_wait hrole
  have hpos : s.dir.nextToken ≠ 0 := fun hzero => hfree (.inl hzero)
  have hnone := hattached.no_upgrade_of_takes htakes
  have hmode (hholders : r.holders ≠ []) : r.mode = .shared ∧ m.mode = .shared := by
    refine ⟨(htakes.resolve_left hholders).1, ?_⟩
    cases hm' : m.mode with
    | shared => rfl
    | exclusive => exact absurd (.inr ⟨hholders, hm'⟩) hfree
  have hnext : (if r.holders = [] then m.mode else r.mode) = m.mode := by
    split
    · rfl
    · next hholders => rw [(hmode hholders).1, (hmode hholders).2]
  rw [State.grantWaiter_eq hr hm]
  refine Census.counted (Census.moderator ?_ (State.notify_frame _ _ _)) _
  refine hs.changed hr hm hhandle
    (m' := { m with
      role := .hold, token := s.dir.nextToken, noticed := false, deadline := none, checkOk := true })
    (c := { s.counts m.agent with waits := (s.counts m.agent).waits - 1, holds := (s.counts m.agent).holds + 1 })
    (Writes.of_undue (m := m) ⟨rfl, rfl, rfl, fun hzero => absurd (by simpa using hzero) hpos, rfl⟩)
    (hattached.with_granted hi hnone fun hholders => ?rewrites) rfl rfl ?fields ?stands rfl ?counts
  case rewrites =>
    rw [if_neg hholders]
    exact ⟨rfl, (hmode hholders).1⟩
  case fields =>
    exact ⟨fun hno => absurd hno (by simp), fun _ => hpos, fun hno => absurd hno (by simp [hup]),
      fun hno => absurd rfl hno⟩
  case stands => exact ⟨hhandle, .inl ⟨rfl, by simp, by simp, hnext.symm, by simp [hup, hnone]⟩⟩
  case counts => constructor <;> simp [tally_some, isHoldOf, isWaitOf, isUpgradeOf, hrole, hup]

/-- The sole holder takes a mode and a token (R39, R40, R45). -/
theorem Census.sole_holder_changed {mode : Mode} {m' : Membership} (hs : Census h s) (hr : s.record h = some r)
    (hm : s.member i = some m) (hsole : r.holders = [i]) (hnone : r.upgrade = none)
    (ht : Writes h { r with mode := mode } i (some m') m.agent (s.counts m.agent) s t) (hagent : m'.agent = m.agent)
    (hhandle : m'.handle = m.handle) (hrole : m'.role = m.role) (hmode : m'.mode = mode)
    (hpending : m'.upgradePending = m.upgradePending) (hstamp : m'.stamp = m.stamp)
    (hdeadline : m'.deadline = m.deadline) (htoken : m'.token ≠ 0) : Census h t := by
  have hi : i ∈ r.holders := by rw [hsole]; exact List.mem_cons_self
  obtain ⟨hname, hhold, -, hup⟩ := (hs.attached h r hr).hold_of_holder hi hm
  have hnot := (hs.hold_listed hr hm hname hhold).2
  have hplain : m.upgradePending = false := Bool.eq_false_iff.mpr fun htrue => by
    rw [hup, hnone] at htrue
    cases htrue
  have hplain' := hpending.trans hplain
  have hhold' := hrole.trans hhold
  obtain ⟨-, -, -, hdue⟩ := hs.fields hm
  refine hs.changed hr hm hname ht ((hs.attached h r hr).with_mode hsole hnone mode) hagent hstamp ?fields
    ⟨hhandle.trans hname, .inl ⟨hhold', hi, hnot, hmode, by simp [hplain', hnone]⟩⟩ rfl ?counts
  case fields =>
    refine ⟨fun hwait => ?_, fun _ => htoken, fun htrue => ?_, fun hset => ?_⟩
    · rw [hhold'] at hwait; cases hwait
    · rw [hplain'] at htrue; cases htrue
    · rw [hdeadline] at hset
      rw [hrole, hpending]
      exact hdue hset
  case counts =>
    have hpos := hs.holds_pos hm hhold
    constructor <;> simp [tally_some, isHoldOf, isWaitOf, isUpgradeOf, hhold, hhold', hplain, hplain', hagent]
    omega

theorem Census.makeExclusive (hs : Census h s) (hr : s.record h = some r) (hm : s.member i = some m)
    (hsole : r.holders = [i]) (hnone : r.upgrade = none) (hpos : s.dir.nextToken ≠ 0) :
    Census h (s.makeExclusive h i) := by
  rw [State.makeExclusive_eq hr hm]
  exact hs.sole_holder_changed (m' := { m with
      mode := .exclusive, token := s.dir.nextToken, noticed := false, checkOk := true }) hr hm hsole hnone
    ⟨rfl, rfl, (Per.put_get _ _).symm, fun hzero => absurd hzero hpos, rfl⟩ rfl rfl rfl rfl rfl rfl rfl hpos

end

end Sys2Proof.Machine
end

section
/-! SUPPORT. The grant pass settles the record that it runs on, and leaves the directory in order (R8, R44 to R49). -/

namespace Sys2Proof.Machine

open Sys2Proof.Expect

/-! ### Notices (R37, R41, R47) -/

section
variable {s t : State} {h i : Nat} {r : Record} {m : Membership}

/-- A holder is told of contention. -/
theorem Census.contend {wanted : Mode} (hs : Census h s) (hr : s.record h = some r) (hi : i ∈ r.holders) :
    Census h (s.contend h wanted i) := by
  obtain ⟨m, hm, hhandle, hrole, -⟩ := holderOk_iff.mp ((hs.attached h r hr).holders i hi)
  by_cases hwanted : m.notice = true ∧ m.noticed = false
  · rw [State.contend_of_wanted hm hwanted.1 hwanted.2]
    obtain ⟨-, htoken, hmode, hdue⟩ := hs.fields hm
    refine Census.moderator ?_ (State.notify_frame _ _ _)
    refine hs.noted hm hhandle (m' := { m with noticed := true, checkOk := true })
      ⟨rfl, rfl, rfl, rfl, rfl, rfl, rfl, rfl, rfl, rfl, rfl⟩ ⟨fun hwait => ?_, htoken, hmode, hdue⟩
    exact absurd (hrole.symm.trans hwait) (by simp)
  · rw [State.contend_of_unwanted hm (by cases hn : m.notice <;> simp_all)]
    exact hs

theorem Census.contendAll {wanted : Mode} (l : List Nat) (hs : Census h s) (hr : s.record h = some r)
    (hl : ∀ i ∈ l, i ∈ r.holders) : Census h (s.contendAll h wanted l) := by
  induction l generalizing s with
  | nil => exact hs
  | cons i l ih =>
    obtain ⟨hi, hl⟩ := List.forall_mem_cons.mp hl
    exact ih (hs.contend hr hi) ((State.contend_record ..).trans hr) hl

@[simp] theorem State.contendAll_record (l : List Nat) (s : State) (h k : Nat) (wanted : Mode) :
    (s.contendAll h wanted l).record k = s.record k := by
  induction l generalizing s with
  | nil => rfl
  | cons j l ih => exact (ih (s.contend h wanted j)).trans (State.contend_record ..)

theorem Census.contentionCheck (hs : Census h s) (hr : s.record h = some r) (hi : i ∈ r.holders) :
    Census h (s.contentionCheck h i) := by
  cases hwaiters : r.waiters with
  | nil => rwa [State.contentionCheck_of_no_waiter hr hwaiters]
  | cons w ws =>
    obtain ⟨m, hm, -⟩ := waiterOk_iff.mp ((hs.attached h r hr).waiters w (by rw [hwaiters]; exact List.mem_cons_self))
    rw [State.contentionCheck_of_waiter hr hwaiters hm]
    exact hs.contend hr hi

theorem Census.contentionChecks (l : List Nat) (hs : Census h s) (hr : s.record h = some r)
    (hl : ∀ i ∈ l, i ∈ r.holders) : Census h (l.foldl (fun s i => s.contentionCheck h i) s) := by
  induction l generalizing s with
  | nil => exact hs
  | cons i l ih =>
    obtain ⟨hi, hl⟩ := List.forall_mem_cons.mp hl
    exact ih (hs.contentionCheck hr hi) ((State.contentionCheck_record ..).trans hr) hl

/-! ### The pending upgrade (R45) -/

theorem Census.grantUpgrade (hs : Census h s) (hr : s.record h = some r) (hup : r.upgrade = some i)
    (hsole : r.holders = [i]) (hpos : s.dir.nextToken ≠ 0) : Census h (s.grantUpgrade h i) := by
  obtain ⟨m, hm, -⟩ := hs.hold_of_upgrade hr hup
  obtain ⟨x, hx⟩ := Option.ne_none_iff_exists'.mp
    (State.clearUpgrade_member_isSome (h := h) (i := i) (j := i) (by simp [hm] : s.member i ≠ none))
  have hcleared := State.clearUpgrade_record hr hm
  have hexclusive : ((s.clearUpgrade h i).makeExclusive h i).record h =
      some { r with upgrade := none, mode := .exclusive, checkOk := true } := by
    rw [State.makeExclusive_eq hcleared hx]
    exact wrote_record_self h _ _
  have hmade : Census h ((s.clearUpgrade h i).makeExclusive h i) :=
    (hs.clearUpgrade hr hup).makeExclusive hcleared hx hsole rfl (by simpa using hpos)
  simp only [State.grantUpgrade, hm]
  have htold := (hmade.moderator (State.notify_frame _ m.agent
    (.granted h .exclusive s.dir.nextToken m.tag true m.prompt))).counted (.agent m.agent .grants)
  refine htold.contentionCheck (r := { r with upgrade := none, mode := .exclusive, checkOk := true }) ?_
    (by rw [hsole]; exact List.mem_cons_self)
  exact (State.notify_record ..).trans hexclusive

/-! ### One slot alone -/

/-- The directory stays in order when one slot changes, where its members may still refer to it. -/
theorem Census.slot_changed (hs : Census h s) (hcanonical : TablesCanonical s → TablesCanonical t)
    (hslot : ∀ k, k ≠ h → t.slot k = s.slot k) (hpool : t.dir.pool = s.dir.pool) (hcounts : t.dir.counts = s.dir.counts)
    (htoken : t.dir.nextToken = s.dir.nextToken) (hsessions : t.sessions = s.sessions)
    (hnames : ∀ r' k x, t.record h = some r' → k ≠ h → s.record k = some x → ¬ (x.ns = r'.ns ∧ x.key = r'.key))
    (hattached : ∀ r', t.record h = some r' → Attached t h r')
    (hreference : ∀ j x, s.member j = some x → x.handle = h → ReferenceOk t j x) : Census h t := by
  have hmember (j : Nat) : t.member j = s.member j := by rw [State.member, State.member, hpool]
  have hcount (a : AgentId) : t.counts a = s.counts a := by rw [State.counts, State.counts, hcounts]
  have hbeyond : s.member Config.poolSize = none := by
    by_contra hused
    exact Nat.lt_irrefl _ (Table.lt_of_get hs.canonical.2 hused)
  refine hs.touch (i := Config.poolSize) (a := 0)
    ⟨hcanonical, hsessions, fun hzero => htoken.trans hzero, hslot, fun j _ => hmember j, fun b _ => hcount b⟩ hnames
    hattached (fun x hx => ?_) (fun x hx => ?_) (fun j x _ hx hhandle => hreference j x hx hhandle) (.inl (by rw [hcount]))
    ?_
  · rw [hbeyond] at hx
    cases hx
  · rw [hmember, hbeyond] at hx
    cases hx
  · rw [hmember, hbeyond, hcount]
    exact ⟨rfl, rfl, rfl⟩

theorem Census.membershipsOk (hs : Census h s) (hsettled : ∀ r, s.record h = some r → Settled s r) : MembershipsOk s :=
  (membershipsOk_iff h s).mpr ⟨hs, hsettled⟩

/-- The pass has served the record: what is left pending waits for the sequence (R45, R46, R48). -/
structure Passed (s : State) (r : Record) : Prop where
  upgrade : ∀ i, r.upgrade = some i → r.holders = [i] → s.dir.nextToken = 0
  waiters : r.holders = [] → r.waiters ≠ [] → s.dir.nextToken = 0

theorem Census.freeSlot (hs : Census h s) (hunnamed : ∀ j x, s.member j = some x → x.handle ≠ h) :
    MembershipsOk (s.freeSlot h) := by
  have hnone : (s.freeSlot h).record h = none := by
    simp only [State.record, State.slot, State.freeSlot, Table.get_free_self]
  have hvacuous {P : Record → Prop} : ∀ r, (s.freeSlot h).record h = some r → P r := by
    intro r hr
    rw [hnone] at hr
    cases hr
  refine (hs.slot_changed (t := s.freeSlot h) (fun hc => ⟨Table.wf_free h hc.1, hc.2⟩)
    (fun k hk => Table.get_free_of_ne _ hk) rfl rfl rfl rfl (fun r' k x hr' => absurd hr' (by rw [hnone]; simp)) hvacuous
    fun j x hx hhandle => absurd hhandle (hunnamed j x hx)).membershipsOk hvacuous

/-- A record that the pass has served stays settled, or retires (R8, R49). -/
theorem Census.retireIfEmpty (hs : Census h s) (hr : s.record h = some r) (hpassed : Passed s r) :
    MembershipsOk (s.retireIfEmpty h) := by
  by_cases hempty : r.holders = [] ∧ r.waiters = []
  · rw [State.retireIfEmpty_of_empty hr hempty.1 hempty.2]
    refine hs.freeSlot fun j x hx hhandle => ?_
    have hlisted := hs.listed hr hx hhandle
    rw [hempty.1, hempty.2] at hlisted
    cases hlisted
  · have hkept : s.retireIfEmpty h = s := by
      simp only [State.retireIfEmpty, hr, List.isEmpty_iff, if_neg hempty]
    rw [hkept]
    refine hs.membershipsOk fun x hx => ?_
    obtain rfl := Option.some.inj (hr.symm.trans hx)
    exact ⟨hpassed.upgrade, fun hnobody =>
      ⟨fun hnil => hempty ⟨hnobody, hnil⟩, hpassed.waiters hnobody fun hnil => hempty ⟨hnobody, hnil⟩⟩⟩

end

/-! ### The waiter queue (R46, R48) -/

/-- What a run leaves of the record that it began with as `r`. -/
structure Ran (h : Nat) (r : Record) (g : List Nat) (t : State) (r' : Record) : Prop where
  census : Census h t
  record : t.record h = some r'
  passed : Passed t r'
  kept : ∀ i ∈ r.holders, i ∈ r'.holders
  granted : ∀ i ∈ g, i ∈ r'.holders

theorem Ran.of_run {h : Nat} {s t : State} {g : List Nat} (hrun : Run h s g t) :
    ∀ r, Census h s → s.record h = some r → (∀ i, r.upgrade = some i → r.holders = [i] → s.dir.nextToken = 0) →
      ∃ r', Ran h r g t r' := by
  induction hrun with
  | full s r hr hfull =>
    intro r₁ hs hr₁ hup
    obtain rfl := Option.some.inj (hr.symm.trans hr₁)
    exact ⟨r, hs, hr, ⟨hup, fun hnobody => absurd (.inl hnobody) hfull⟩, fun _ hi => hi, fun _ hi => by cases hi⟩
  | served s r hr hwaiters =>
    intro r₁ hs hr₁ hup
    obtain rfl := Option.some.inj (hr.symm.trans hr₁)
    exact ⟨r, hs, hr, ⟨hup, fun _ hsome => absurd hwaiters hsome⟩, fun _ hi => hi, fun _ hi => by cases hi⟩
  | withheld s r i ws m hr _ _ _ hwithheld =>
    intro r₁ hs hr₁ hup
    obtain rfl := Option.some.inj (hr.symm.trans hr₁)
    refine ⟨r, hs, hr, ⟨hup, fun hnobody _ => ?_⟩, fun _ hi => hi, fun _ hi => by cases hi⟩
    exact hwithheld.resolve_right fun hholders => hholders.1 hnobody
  | removed s t g r i ws m hr _ hwaiters hm _ _ ih =>
    intro r₁ hs hr₁ hup
    obtain rfl := Option.some.inj (hr.symm.trans hr₁)
    obtain ⟨hhandle, hrole⟩ := (hs.attached h r hr).wait_of_waiter (by rw [hwaiters]; exact List.mem_cons_self) hm
    obtain ⟨r', hran⟩ := ih _ (hs.removeWait hr hm hhandle hrole) (State.removeWait_record hr hm) fun j hj hsole =>
      (s.removeWait_work h i).pool.tokenRises.1 (hup j hj hsole)
    exact ⟨r', hran.census, hran.record, hran.passed, hran.kept, hran.granted⟩
  | granted s t g r i ws m hr htakes hwaiters hm _ hfree _ ih =>
    intro r₁ hs hr₁ hup
    obtain rfl := Option.some.inj (hr.symm.trans hr₁)
    have hnone := (hs.attached h r hr).no_upgrade_of_takes htakes
    obtain ⟨r', hran⟩ := ih _ (hs.grantWaiter hr htakes hwaiters hm hfree) (State.grantWaiter_record hr hm)
      fun j hj => by
        rw [hnone] at hj
        cases hj
    refine ⟨r', hran.census, hran.record, hran.passed, fun j hj => hran.kept j (List.mem_append_left _ hj), ?_⟩
    rintro j (_ | ⟨_, hj⟩)
    · exact hran.kept i (List.mem_append_right _ List.mem_cons_self)
    · exact hran.granted j hj

section
variable {s : State} {h i : Nat} {r : Record}

theorem Passed.of_token {t : State} (hpassed : Passed s r) (htoken : s.dir.nextToken = 0 → t.dir.nextToken = 0) :
    Passed t r :=
  ⟨fun i hi hsole => htoken (hpassed.upgrade i hi hsole), fun hnobody hsome => htoken (hpassed.waiters hnobody hsome)⟩

/-- The second stage and the end of the pass, where no upgrade is due. -/
theorem Census.waiterStage (hs : Census h s) (hr : s.record h = some r)
    (hup : ∀ i, r.upgrade = some i → r.holders = [i] → s.dir.nextToken = 0) :
    MembershipsOk ((s.waiterStage h).retireIfEmpty h) := by
  have hattached := hs.attached h r hr
  obtain ⟨-, hnodup, -⟩ := List.nodup_append.mp hattached.nodup
  obtain ⟨g, t, hrun, hpass⟩ := State.waiterStage_run hr hnodup fun i hi => by
    obtain ⟨m, hm, -⟩ := waiterOk_iff.mp (hattached.waiters i hi)
    exact ⟨m, hm⟩
  obtain ⟨r', hran⟩ := Ran.of_run hrun r hs hr hup
  rw [hpass, ← State.passEnded_eq]
  exact (hran.census.contentionChecks g hran.record hran.granted).retireIfEmpty
    ((State.contentionChecks_record ..).trans hran.record)
    (hran.passed.of_token (State.contentionChecks_work t h g).pool.tokenRises.1)

/-- The grant pass settles its record. -/
theorem Census.grantPass (hs : Census h s) (hr : s.record h = some r) : MembershipsOk (s.grantPass h) := by
  have hsecond {t : State} (hstage : s.upgradeStage h = (t, false)) :
      s.grantPass h = (t.waiterStage h).retireIfEmpty h := by
    simp only [State.grantPass, hstage, Bool.false_eq_true, if_false]
  cases hup : r.upgrade with
  | none =>
    rw [hsecond (State.upgradeStage_of_none hr hup)]
    exact hs.waiterStage hr fun i hi => by
      rw [hup] at hi
      cases hi
  | some i =>
    obtain ⟨m, hm, -⟩ := hs.hold_of_upgrade hr hup
    by_cases hretiring : (s.session m.agent).state = .retiring
    · rw [hsecond (State.upgradeStage_of_retiring hr hup hm hretiring)]
      exact (hs.clearUpgrade hr hup).waiterStage (State.clearUpgrade_record hr hm) fun j hj => by cases hj
    · by_cases hgrant : r.holders = [i] ∧ s.dir.nextToken ≠ 0
      · obtain ⟨hsole, hpos⟩ := hgrant
        simp only [State.grantPass, State.upgradeStage_of_granted hr hup hm hretiring hsole hpos, if_true]
        refine (hs.grantUpgrade hr hup hsole hpos).retireIfEmpty (State.grantUpgrade_record hr hm)
          ⟨fun j hj => absurd hj (by simp), fun hnobody => ?_⟩
        rw [hsole] at hnobody
        cases hnobody
      · have hnot : r.holders ≠ [i] ∨ s.dir.nextToken = 0 := by
          by_cases hsole : r.holders = [i]
          · exact .inr (by_contra fun hpos => hgrant ⟨hsole, hpos⟩)
          · exact .inl hsole
        rw [hsecond (State.upgradeStage_of_withheld hr hup hm hretiring hnot)]
        refine hs.waiterStage hr fun j hj hsole => ?_
        obtain rfl := Option.some.inj (hup.symm.trans hj)
        exact hnot.resolve_left (fun hne => hne hsole)

end

end Sys2Proof.Machine
end

section
/-! SUPPORT. The operations of the lease requests leave records, memberships and counts in order (R32 to R42). -/

namespace Sys2Proof.Machine

open Sys2Proof.Expect

section
variable {s t : State} {h i : Nat} {r : Record} {m : Membership}

theorem census_of_membershipsOk (hs : MembershipsOk s) (h : Nat) : Census h s := ((membershipsOk_iff h s).mp hs).1

theorem settled_of_membershipsOk (hs : MembershipsOk s) (hr : s.record h = some r) : Settled s r :=
  ((membershipsOk_iff h s).mp hs).2 r hr

/-- The directory is in order when one record is and it is settled. -/
theorem Census.membershipsOk_of_record {r' : Record} (ht : Census h t) (hr : t.record h = some r')
    (hsettled : Settled t r') : MembershipsOk t :=
  ht.membershipsOk fun x hx => by
    obtain rfl := Option.some.inj (hr.symm.trans hx)
    exact hsettled

/-- A record with holders whose pending upgrade waits for another holder is settled. -/
theorem settled_of_holders (hholders : r.holders ≠ []) (hup : ∀ i, r.upgrade = some i → r.holders ≠ [i]) : Settled s r :=
  ⟨fun i hi hsole => absurd hsole (hup i hi), fun hnobody => absurd hnobody hholders⟩

/-- The sole holder's upgrade of a settled record is not pending while tokens are left (R45). -/
theorem Settled.no_upgrade (hs : Settled s r) (hattached : Attached s h r) (hsole : r.holders = [i])
    (hpos : s.dir.nextToken ≠ 0) : r.upgrade = none := by
  cases hup : r.upgrade with
  | none => rfl
  | some j =>
    have hj := (hattached.upgrade j hup).1
    rw [hsole] at hj
    obtain rfl := List.mem_singleton.mp hj
    exact absurd (hs.1 j hup hsole) hpos

/-! ### RELEASE, DOWNGRADE, CANCEL (R38, R39, R42) -/

theorem releaseHold_membershipsOk (hs : MembershipsOk s) (hr : s.record h = some r) (hi : i ∈ r.holders)
    (hm : s.member i = some m) : MembershipsOk (releaseHold h r i m s).1 := by
  have hcensus := census_of_membershipsOk hs h
  obtain ⟨hhandle, hrole, -⟩ := (hcensus.attached h r hr).hold_of_holder hi hm
  obtain ⟨r', hr', -⟩ := State.removeHold_record hr hm
  exact (hcensus.removeHold hr hm hhandle hrole).grantPass hr'

/-- The holder of an EXCLUSIVE record is alone and has no upgrade pending (R4, R6). -/
theorem Attached.sole_of_exclusive (hs : Attached s h r) (hi : i ∈ r.holders) (hmode : r.mode = .exclusive) :
    r.holders = [i] ∧ r.upgrade = none := by
  constructor
  · have hlength := hs.exclusive hmode
    match hholders : r.holders, hi, hlength with
    | [j], hj, _ => rw [List.mem_singleton.mp hj]
  · refine Option.eq_none_iff_forall_not_mem.mpr fun j hj => ?_
    have hshared := (hs.upgrade j hj).2
    rw [hmode] at hshared
    cases hshared

theorem downgradeHold_membershipsOk (hs : MembershipsOk s) (hr : s.record h = some r) (hi : i ∈ r.holders)
    (hm : s.member i = some m) : MembershipsOk (downgradeHold h r i m s).1 := by
  have hcensus := census_of_membershipsOk hs h
  obtain ⟨-, hrole, hmode, -⟩ := (hcensus.attached h r hr).hold_of_holder hi hm
  cases hm' : m.mode with
  | shared => simpa only [downgradeHold, hm'] using hs
  | exclusive =>
    obtain ⟨hsole, hnone⟩ := (hcensus.attached h r hr).sole_of_exclusive hi (hmode.symm.trans hm')
    simp only [downgradeHold, hm', State.editRecord_eq_wrote hr]
    rw [State.editMember_of_member _ (m := m) (by rw [wrote_member, hm])]
    refine Census.grantPass (r := { r with mode := .shared, checkOk := true }) ?_ (wrote_record_self h _ _)
    exact hcensus.sole_holder_changed (m' := { m with mode := .shared, checkOk := true }) hr hm hsole hnone
      ⟨rfl, rfl, (Per.put_get _ _).symm, id, rfl⟩ rfl rfl rfl rfl rfl rfl rfl ((hcensus.fields hm).2.1 hrole)

theorem cancelOn_membershipsOk (a : AgentId) (hs : MembershipsOk s) (hr : s.record h = some r) :
    MembershipsOk (cancelOn a h r s).1 := by
  have hcensus := census_of_membershipsOk hs h
  simp only [cancelOn]
  split
  · next i m hwaits =>
    obtain ⟨hm, -, hi⟩ := State.memberOf_member hwaits
    obtain ⟨hhandle, hrole⟩ := (hcensus.attached h r hr).wait_of_waiter hi hm
    exact (hcensus.removeWait hr hm hhandle hrole).grantPass (State.removeWait_record hr hm)
  · split
    · next i m hheld =>
      split
      · next hpending =>
        obtain ⟨hm, -, hi⟩ := State.memberOf_member hheld
        obtain ⟨-, -, -, hup⟩ := (hcensus.attached h r hr).hold_of_holder hi hm
        exact (hcensus.clearUpgrade hr (hup.mp hpending)).grantPass (State.clearUpgrade_record hr hm)
      · exact hs
    · exact hs

/-! ### UPGRADE (R40, R41) -/

theorem upgradeNow_membershipsOk (a : AgentId) (tag : Tag) (prompt : Bool) (hs : MembershipsOk s)
    (hr : s.record h = some r) (hm : s.member i = some m) (hsole : r.holders = [i]) :
    MembershipsOk (upgradeNow a tag prompt h i s).1 := by
  have hcensus := census_of_membershipsOk hs h
  by_cases hpos : s.dir.nextToken = 0
  · simpa only [upgradeNow, State.exhausted_iff, if_pos hpos] using hs
  · have hnone := (settled_of_membershipsOk hs hr).no_upgrade (hcensus.attached h r hr) hsole hpos
    rw [upgradeNow_of_not_exhausted hr hm hpos]
    have hnow : Census h (counted (.agent a .grants) (tokenTaken (wroteMember i
        { m with mode := .exclusive, token := s.dir.nextToken, noticed := false, tag := tag, prompt := prompt }
        (wrote h { r with mode := .exclusive } s)))) := by
      refine Census.counted ?_ _
      exact hcensus.sole_holder_changed (m' := { m with
          mode := .exclusive, token := s.dir.nextToken, noticed := false, tag := tag, prompt := prompt, checkOk := true })
        hr hm hsole hnone ⟨rfl, rfl, (Per.put_get _ _).symm, fun hzero => absurd hzero hpos, rfl⟩ rfl rfl rfl rfl rfl rfl
        rfl hpos
    have hrecord := wrote_record_self h { r with mode := .exclusive } s
    refine (hnow.contentionCheck hrecord (by simp [hsole])).membershipsOk_of_record
      ((State.contentionCheck_record ..).trans hrecord) (settled_of_holders (by simp [hsole]) fun j hj => ?_)
    rw [hnone] at hj
    cases hj

/-- A registration writes the deadline of its membership and nothing else of the directory. -/
theorem State.registerDeadline_dir {p : Table Membership} (kind : DeadlineKind) (d : BitVec 16)
    (hpool : s.dir.pool = Table.put p i { m with checkOk := true }) :
    ∃ x, (s.registerDeadline i kind d).dir =
      { s.dir with pool := Table.put p i { m with deadline := x, checkOk := true } } := by
  by_cases hd : d = 0
  · subst hd
    rw [State.registerDeadline_zero]
    exact ⟨m.deadline, by rw [← hpool]⟩
  · have hm : s.member i = some { m with checkOk := true } := by rw [State.member, hpool, Table.get_put_self]
    rw [State.registerDeadline_of_member hm hd]
    refine ⟨some (s.clock.ms + d.setWidth 32 + 1), ?_⟩
    simp only [wroteMember, hpool, Table.put_put]

theorem setUpgrade_membershipsOk {a : AgentId} (tag : Tag) (prompt : Bool) (deadline : BitVec 16) (hs : MembershipsOk s)
    (hr : s.record h = some r) (hi : i ∈ r.holders) (hm : s.member i = some m) (hagent : m.agent = a)
    (hmode : m.mode = .shared) (hshared : r.holders ≠ [i]) (hnone : r.upgrade = none) :
    MembershipsOk (setUpgrade a tag prompt deadline h r i s).1 := by
  have hcensus := census_of_membershipsOk hs h
  by_cases hquota : WaitQuotaApplies s a
  · rwa [setUpgrade_of_quota hquota]
  subst hagent
  have hattached := hcensus.attached h r hr
  obtain ⟨hhandle, hrole, hsame, hup⟩ := hattached.hold_of_holder hi hm
  have hplain : m.upgradePending = false := Bool.eq_false_iff.mpr fun htrue => by
    rw [hup, hnone] at htrue
    cases htrue
  rw [setUpgrade_of_admitted hr hm hquota]
  obtain ⟨x, hdir⟩ := State.registerDeadline_dir (p := s.dir.pool)
    (m := { m with upgradePending := true, tag := tag, prompt := prompt, deadline := none }) (i := i)
    (s := (wrote h { r with upgrade := some i }
      (wroteMember i { m with upgradePending := true, tag := tag, prompt := prompt, deadline := none } s)).removeDeadline i)
    .upgrade deadline rfl
  have hsessions := (State.registerDeadline_work ((wrote h { r with upgrade := some i }
    (wroteMember i { m with upgradePending := true, tag := tag, prompt := prompt, deadline := none } s)).removeDeadline i)
    i .upgrade deadline).sessions
  generalize ((wrote h { r with upgrade := some i }
    (wroteMember i { m with upgradePending := true, tag := tag, prompt := prompt, deadline := none } s)).removeDeadline
      i).registerDeadline i .upgrade deadline = u at hdir hsessions ⊢
  have hwrites : Writes h { r with upgrade := some i } i
      (some { m with upgradePending := true, tag := tag, prompt := prompt, deadline := x, checkOk := true }) m.agent
      { s.counts m.agent with upgrades := (s.counts m.agent).upgrades + 1 } s
      (counted (.agent m.agent .waitsAdmitted)
        (wroteCounts m.agent { s.counts m.agent with upgrades := (s.counts m.agent).upgrades + 1 } u)) := by
    refine ⟨?_, ?_, ?_, ?_, hsessions⟩
    · exact congrArg Directory.slots hdir
    · exact congrArg Directory.pool hdir
    · exact congrArg (fun d => Per.put d.counts m.agent _) hdir
    · intro hzero
      exact (congrArg Directory.nextToken hdir).trans hzero
  have hset := hcensus.changed hr hm hhandle hwrites (hattached.with_upgrade hi (hsame.symm.trans hmode) hnone) rfl rfl
    ⟨fun hwait => absurd (hrole.symm.trans hwait) (by simp), fun _ => (hcensus.fields hm).2.1 hrole, fun _ => hmode,
      fun _ => .inr rfl⟩
    ⟨hhandle, .inl ⟨hrole, hi, (hcensus.hold_listed hr hm hhandle hrole).2, hsame, by simp⟩⟩ rfl
    (by
      have hpos := hcensus.holds_pos hm hrole
      constructor <;> simp [tally_some, isHoldOf, isWaitOf, isUpgradeOf, hrole, hplain]
      omega)
  have hrecord := hwrites.record_self
  generalize counted (.agent m.agent .waitsAdmitted)
    (wroteCounts m.agent { s.counts m.agent with upgrades := (s.counts m.agent).upgrades + 1 } u) = w at hset hrecord ⊢
  have hlast : (w.contendAll h .exclusive (r.holders.filter (fun j => decide (j ≠ i)))).record h =
      some { r with upgrade := some i, checkOk := true } := (State.contendAll_record ..).trans hrecord
  refine (hset.contendAll _ hrecord fun j hj => List.mem_of_mem_filter hj).membershipsOk_of_record hlast
    (settled_of_holders (List.ne_nil_of_mem hi) fun j hj => ?_)
  obtain rfl := Option.some.inj hj
  exact hshared

end

end Sys2Proof.Machine
end

section
/-! SUPPORT. The admissions of an ACQUIRE leave records, memberships and counts in order (R7, R32 to R37, R55). -/

namespace Sys2Proof.Machine

open Sys2Proof.Expect

section
variable {s t : State} {h i : Nat} {r : Record} {m : Membership} {a : AgentId}

/-! ### Records with a new member -/

/-- The record that a new holder has joined (R34). -/
theorem Attached.with_holder (hs : Attached s h r) (hi : i ∉ r.holders ++ r.waiters) (hmode : r.mode = .shared)
    (hnone : r.upgrade = none) : Rewrites i r { r with holders := r.holders ++ [i] } where
  ns := rfl
  key := rfl
  holders j hj := by simp [hj]
  waiters _ _ := Iff.rfl
  mode _ _ _ := rfl
  upgrade _ _ := Iff.rfl
  nodup := by
    rw [List.append_assoc, List.singleton_append, List.nodup_middle]
    exact List.nodup_cons.mpr ⟨hi, hs.nodup⟩
  exclusive hexclusive := by
    rw [hmode] at hexclusive
    cases hexclusive
  room := hs.room
  shared j hj := by
    rw [hnone] at hj
    cases hj

/-- The record that a new waiter has joined (R36). -/
theorem Attached.with_waiter (hs : Attached s h r) (hi : i ∉ r.holders ++ r.waiters) (hroom : r.waiters.length < 7) :
    Rewrites i r { r with waiters := r.waiters ++ [i] } where
  ns := rfl
  key := rfl
  holders _ _ := Iff.rfl
  waiters j hj := by simp [hj]
  mode _ _ _ := rfl
  upgrade _ _ := Iff.rfl
  nodup := by
    rw [← List.append_assoc, List.nodup_append_comm, List.singleton_append]
    exact List.nodup_cons.mpr ⟨hi, hs.nodup⟩
  exclusive := hs.exclusive
  room := by
    rw [List.length_append, List.length_singleton]
    omega
  shared := hs.upgrade

theorem Attached.not_listed (hs : Attached s h r) (hfree : s.member i = none) : i ∉ r.holders ++ r.waiters := fun hi => by
  obtain ⟨m, hm, -⟩ := hs.member hi
  rw [hfree] at hm
  cases hm

/-! ### Room for one more (R5, R36) -/

/-- The agent of the member at an index, and agent 0 where there is none. -/
def agentAt (s : State) (j : Nat) : AgentId := ((s.member j).map Membership.agent).getD 0

theorem agentAt_of_member (hm : s.member i = some m) : agentAt s i = m.agent := by
  rw [agentAt, hm]
  rfl

/-- An agent without a membership on the record leaves at most seven to the others. -/
theorem Attached.length_le (hs : Attached s h r)
    (hstranger : ∀ j x, j ∈ r.holders ++ r.waiters → s.member j = some x → x.agent ≠ a) :
    r.holders.length + r.waiters.length ≤ 7 := by
  have hused {j : Nat} (hj : j ∈ r.holders ++ r.waiters) : ∃ x, s.member j = some x := by
    obtain ⟨x, hx, -⟩ := hs.member hj
    exact ⟨x, hx⟩
  have hdistinct : ((r.holders ++ r.waiters).map (agentAt s)).Nodup := by
    refine List.Nodup.map_on (fun j hj k hk hsame => ?_) hs.nodup
    obtain ⟨x, hx⟩ := hused hj
    obtain ⟨y, hy⟩ := hused hk
    rw [agentAt_of_member hx, agentAt_of_member hy] at hsame
    exact hs.agents j hj k hk x y hx hy hsame
  have hnew : a ∉ (r.holders ++ r.waiters).map (agentAt s) := by
    rw [List.mem_map]
    rintro ⟨j, hj, hsame⟩
    obtain ⟨x, hx⟩ := hused hj
    rw [agentAt_of_member hx] at hsame
    exact hstranger j x hj hx hsame
  have hlength := (List.nodup_cons.mpr ⟨hnew, hdistinct⟩).length_le_card
  rw [Fintype.card_fin, List.length_cons, List.length_map, List.length_append] at hlength
  omega

theorem stranger_of_memberOf (hheld : s.memberOf a r.holders = none) (hwaits : s.memberOf a r.waiters = none) (j : Nat)
    (x : Membership) (hj : j ∈ r.holders ++ r.waiters) (hx : s.member j = some x) : x.agent ≠ a := by
  rcases List.mem_append.mp hj with hj | hj
  · exact State.memberOf_eq_none_iff.mp hheld j hj x hx
  · exact State.memberOf_eq_none_iff.mp hwaits j hj x hx

/-! ### The admissions (R7, R34, R36) -/

theorem nextStamp_ne_zero (hquota : ¬ MembershipQuotaApplies s a) : (s.counts a).nextStamp ≠ 0 :=
  fun hzero => hquota (.inr hzero)

theorem grantAtOnce_membershipsOk (tag : Tag) (notice : Bool) (hs : MembershipsOk s) (hr : s.record h = some r)
    (hopen : (s.session a).state ≠ .closed)
    (hstranger : ∀ j x, j ∈ r.holders ++ r.waiters → s.member j = some x → x.agent ≠ a) (hmode : r.mode = .shared)
    (hnone : r.upgrade = none) : MembershipsOk (grantAtOnce a tag notice h s).1 := by
  have hcensus := census_of_membershipsOk hs h
  have hattached := hcensus.attached h r hr
  by_cases hquota : MembershipQuotaApplies s a
  · rwa [grantAtOnce_of_quota hquota]
  cases hentry : Table.lowestFree s.dir.pool 8192 with
  | none => rwa [grantAtOnce_of_pool_full hquota (Table.lowestFree_eq_none.mp hentry)]
  | some i =>
    have hentry := Table.lowestFree_eq_some.mp hentry
    by_cases hpos : s.dir.nextToken = 0
    · rwa [grantAtOnce_of_exhausted hquota hentry hpos]
    · rw [grantAtOnce_of_free hr hquota hentry hpos]
      obtain ⟨hi, hfree, -⟩ := hentry
      have hlisted := hattached.not_listed hfree
      have hwrites : Writes h { r with holders := r.holders ++ [i] } i
          (some (made s a h .hold .shared s.dir.nextToken tag notice false)) a
          { s.counts a with holds := (s.counts a).holds + 1, nextStamp := (s.counts a).nextStamp + 1 } s
          (granted a h i .shared tag notice (sealed { r with holders := r.holders ++ [i] }) s) :=
        ⟨rfl, rfl, rfl, fun hzero => absurd hzero hpos, rfl⟩
      refine (hcensus.made hr hfree hi hwrites (hattached.with_holder hlisted hmode hnone)
        ⟨fun hno => absurd hno (by simp [made]), fun _ => hpos, fun hno => absurd hno (by simp [made]),
          fun hno => absurd rfl hno⟩
        ⟨rfl, .inl ⟨rfl, by simp, fun hw => hlisted (List.mem_append_right _ hw), hmode.symm, by simp [made, hnone]⟩⟩ hopen
        (nextStamp_ne_zero hquota) rfl rfl hstranger ?_).membershipsOk_of_record hwrites.record_self
          (settled_of_holders (by simp) fun j hj => ?_)
      · constructor <;> simp [tally_some, isHoldOf, isWaitOf, isUpgradeOf, made]
      · rw [hnone] at hj
        cases hj

theorem admitWait_membershipsOk (tag : Tag) (mode : Mode) (notice prompt : Bool) (deadline : BitVec 16)
    (hs : MembershipsOk s) (hr : s.record h = some r) (hopen : (s.session a).state ≠ .closed)
    (hstranger : ∀ j x, j ∈ r.holders ++ r.waiters → s.member j = some x → x.agent ≠ a) :
    MembershipsOk (admitWait a tag mode notice prompt deadline h r s).1 := by
  have hcensus := census_of_membershipsOk hs h
  have hattached := hcensus.attached h r hr
  by_cases hquota : MembershipQuotaApplies s a
  · rwa [admitWait_of_membershipQuota hquota]
  by_cases hwaits : WaitQuotaApplies s a
  · rwa [admitWait_of_waitQuota hquota hwaits]
  cases hentry : Table.lowestFree s.dir.pool 8192 with
  | none => rwa [admitWait_of_pool_full hquota hwaits (Table.lowestFree_eq_none.mp hentry)]
  | some i =>
    have hentry := Table.lowestFree_eq_some.mp hentry
    by_cases hlong : r.holders = [] ∧ 7 ≤ r.waiters.length
    · rwa [admitWait_of_stalled_queue hquota hwaits hentry hlong.1 hlong.2]
    rw [admitWait_of_free hr hquota hwaits hentry hlong]
    obtain ⟨hi, hfree, -⟩ := hentry
    have hlisted := hattached.not_listed hfree
    have hroom : r.waiters.length < 7 := by
      have hall := hattached.length_le hstranger
      by_cases hnobody : r.holders = []
      · exact Nat.lt_of_not_le fun hle => hlong ⟨hnobody, hle⟩
      · have hsome := List.length_pos_iff.mpr hnobody
        omega
    have hpool : (wrote h { r with waiters := r.waiters ++ [i] }
        (wroteCounts a { s.counts a with waits := (s.counts a).waits + 1, nextStamp := (s.counts a).nextStamp + 1 }
          (wroteMember i (made s a h .wait mode 0 tag notice prompt) s))).dir.pool =
        Table.put s.dir.pool i { made s a h .wait mode 0 tag notice prompt with checkOk := true } := rfl
    obtain ⟨x, hdir⟩ := State.registerDeadline_dir .wait deadline hpool
    have hsessions := (State.registerDeadline_work (wrote h { r with waiters := r.waiters ++ [i] }
        (wroteCounts a { s.counts a with waits := (s.counts a).waits + 1, nextStamp := (s.counts a).nextStamp + 1 }
          (wroteMember i (made s a h .wait mode 0 tag notice prompt) s))) i .wait deadline).sessions
    generalize (wrote h { r with waiters := r.waiters ++ [i] }
        (wroteCounts a { s.counts a with waits := (s.counts a).waits + 1, nextStamp := (s.counts a).nextStamp + 1 }
          (wroteMember i (made s a h .wait mode 0 tag notice prompt) s))).registerDeadline i .wait deadline = u
      at hdir hsessions ⊢
    have hwrites : Writes h { r with waiters := r.waiters ++ [i] } i
        (some { made s a h .wait mode 0 tag notice prompt with deadline := x }) a
        { s.counts a with waits := (s.counts a).waits + 1, nextStamp := (s.counts a).nextStamp + 1 } s u :=
      ⟨congrArg Directory.slots hdir, congrArg Directory.pool hdir, congrArg Directory.counts hdir,
        fun hzero => (congrArg Directory.nextToken hdir).trans hzero, hsessions⟩
    have hmade := hcensus.made hr hfree hi hwrites (hattached.with_waiter hlisted hroom)
      ⟨fun _ => ⟨rfl, rfl, rfl⟩, fun hno => absurd hno (by simp [made]), fun hno => absurd hno (by simp [made]),
        fun _ => .inl rfl⟩
      ⟨rfl, .inr ⟨rfl, by simp, fun hw => hlisted (List.mem_append_left _ hw)⟩⟩ hopen (nextStamp_ne_zero hquota) rfl rfl
      hstranger (by constructor <;> simp [tally_some, isHoldOf, isWaitOf, isUpgradeOf, made])
    have hrecord := hwrites.record_self
    have htoken : s.dir.nextToken = 0 → (u.contendAll h mode r.holders).dir.nextToken = 0 := fun hzero =>
      (State.contendAll_work u h mode r.holders).pool.tokenRises.1 ((congrArg Directory.nextToken hdir).trans hzero)
    have hsettled := (settled_of_membershipsOk hs hr).of_token htoken
    exact ((hmade.contendAll r.holders hrecord fun _ hj => hj).counted _).membershipsOk_of_record
      ((State.contendAll_record ..).trans hrecord) ⟨hsettled.1, fun hnobody => ⟨by simp, (hsettled.2 hnobody).2⟩⟩

theorem acquireExisting_membershipsOk (tag : Tag) (mode : Mode) (tryNow prompt notice : Bool) (deadline : BitVec 16)
    (hs : MembershipsOk s) (hr : s.record h = some r) (hopen : (s.session a).state ≠ .closed) :
    MembershipsOk (acquireExisting a tag mode tryNow prompt notice deadline h r s).1 := by
  simp only [acquireExisting]
  split
  · exact hs
  · next hheld =>
    split
    · exact hs
    · next hwaits =>
      have hstranger := stranger_of_memberOf hheld hwaits
      split
      · next hcompatible =>
        obtain ⟨-, hmode, -, hnone⟩ := (compatibleNow_iff mode r).mp hcompatible
        exact grantAtOnce_membershipsOk tag notice hs hr hopen hstranger hmode hnone
      · split
        · exact hs
        · exact admitWait_membershipsOk tag mode notice prompt deadline hs hr hopen hstranger

/-! ### Record creation (R7, R32) -/

/-- A record with its first holder, in a slot that was free. -/
theorem Census.created (hs : Census h s) (hslot : s.slot h = none) (hh : h < Config.slotCount) (hfree : s.member i = none)
    (hi : i < Config.poolSize) {r' : Record} {m' : Membership} {c : Counts}
    (hwrites : Writes h r' i (some m') m'.agent c s t) (hnames : ∀ k x, s.record k = some x → ¬ (x.ns = r'.ns ∧ x.key = r'.key))
    (hholders : r'.holders = [i]) (hwaiters : r'.waiters = []) (hnone : r'.upgrade = none) (hfields : FieldsOk m')
    (hhandle : m'.handle = h) (hrole : m'.role = .hold) (hmode : m'.mode = r'.mode) (hplain : m'.upgradePending = false)
    (hopen : (s.session m'.agent).state ≠ .closed) (hpos : (s.counts m'.agent).nextStamp ≠ 0)
    (hstamp : m'.stamp = (s.counts m'.agent).nextStamp) (hnext : c.nextStamp = (s.counts m'.agent).nextStamp + 1)
    (hcounts : Recounted m'.agent none (some m') (s.counts m'.agent) c) : Census h t := by
  have htouch : Touches h i m'.agent s t :=
    { canonical := fun hc =>
        ⟨by rw [hwrites.slots]; exact Table.wf_put_of_used _ hc.1 (.inr hh),
          by rw [hwrites.pool]; exact wf_placed _ hc.2 (.inr hi)⟩
      sessions := hwrites.sessions
      token := hwrites.token
      slot := fun k hk => by simp only [State.slot, hwrites.slots, Table.get_put_of_ne _ _ hk]
      member := fun j hj => by simp only [State.member, hwrites.pool, get_placed_of_ne _ _ hj]
      counts := fun b hb => by simp only [State.counts, hwrites.counts, Per.get_put_of_ne _ _ hb] }
  have hrecord := hwrites.record_self
  have hself := hwrites.member_self
  refine hs.touch htouch (fun x k y hx _ hy => ?names) (fun x hx => ?attached)
    (fun m hm => by rw [hfree] at hm; cases hm) (fun m hm => ?new) (fun j x _ hx hname => ?others)
    (.inr ⟨hpos, by rw [hwrites.counts_self, hnext]⟩) (by rwa [hwrites.counts_self, hself, hfree])
  case names =>
    obtain rfl := Option.some.inj (hrecord.symm.trans hx)
    exact hnames k y hy
  case attached =>
    obtain rfl := Option.some.inj (hrecord.symm.trans hx)
    have hlist : r'.holders ++ r'.waiters = [i] := by rw [hholders, hwaiters]; rfl
    refine ⟨fun j hj => ?_, fun j hj => ?_, ?_, fun j hj k hk m x hm hx hsame => ?_, fun _ => ?_, ?_, fun j hj => ?_⟩
    · obtain rfl : j = i := by simpa [hholders] using hj
      exact holderOk_iff.mpr ⟨m', hself, hhandle, hrole, hmode, by simp [hplain, hnone]⟩
    · simp [hwaiters] at hj
    · rw [hlist]
      exact List.nodup_singleton i
    · rw [hlist] at hj hk
      rw [List.mem_singleton.mp hj, List.mem_singleton.mp hk]
    · simp [hholders]
    · simp [hwaiters]
    · rw [hnone] at hj
      cases hj
  case new =>
    obtain rfl := Option.some.inj (hself.symm.trans hm)
    refine ⟨rfl, hfields, ?_, hopen, .inr ⟨hpos, by rw [hwrites.counts_self, hnext], hstamp⟩⟩
    rw [referenceOk_iff, hhandle, State.slot_of_record hrecord]
    exact .inl ⟨_, rfl, by simp [hholders]⟩
  case others =>
    have hreference := ((memberOk_iff s j x).mp (hs.members j x hx)).1
    rw [referenceOk_iff, hname, hslot] at hreference
    simp at hreference

theorem createRecord_membershipsOk {ns : Byte} {key : Key} (tag : Tag) (mode : Mode) (notice : Bool) (hs : MembershipsOk s)
    (hopen : (s.session a).state ≠ .closed) (hname : s.findName ns key = none) :
    MembershipsOk (createRecord a tag ns key mode notice s).1 := by
  by_cases hquota : MembershipQuotaApplies s a
  · rwa [createRecord_of_quota hquota]
  cases hslot : Table.lowestFree s.dir.slots 4096 with
  | none => rwa [createRecord_of_slots_full hquota (Table.lowestFree_eq_none.mp hslot)]
  | some h =>
    have hslot := Table.lowestFree_eq_some.mp hslot
    cases hentry : Table.lowestFree s.dir.pool 8192 with
    | none => rwa [createRecord_of_pool_full hquota hslot (Table.lowestFree_eq_none.mp hentry)]
    | some i =>
      have hentry := Table.lowestFree_eq_some.mp hentry
      by_cases hpos : s.dir.nextToken = 0
      · rwa [createRecord_of_exhausted hquota hslot hentry hpos]
      · rw [createRecord_of_free hquota hslot hentry hpos]
        obtain ⟨hh, hempty, -⟩ := hslot
        obtain ⟨hi, hfree, -⟩ := hentry
        have hcensus := census_of_membershipsOk hs h
        have hwrites : Writes h
            { ns := ns, key := key, mode := mode, holders := [i], waiters := [], upgrade := none, checkOk := true } i
            (some (made s a h .hold mode s.dir.nextToken tag notice false)) a
            { s.counts a with holds := (s.counts a).holds + 1, nextStamp := (s.counts a).nextStamp + 1 } s
            (granted a h i mode tag notice
              (sealed
                { ns := ns, key := key, mode := mode, holders := [i], waiters := [], upgrade := none, checkOk := true })
              s) := ⟨rfl, rfl, rfl, fun hzero => absurd hzero hpos, rfl⟩
        refine (hcensus.created hempty hh hfree hi hwrites (fun k x hx hsame => ?names) rfl rfl rfl ?fields rfl rfl rfl rfl
          hopen (nextStamp_ne_zero hquota) rfl rfl ?counts).membershipsOk_of_record hwrites.record_self
            (settled_of_holders (by simp) fun j hj => absurd hj (by simp))
        case names =>
          have hfound := (State.findName_iff hs.1 hs.2.1).mpr ⟨State.slot_of_record hx, hsame⟩
          rw [hname] at hfound
          cases hfound
        case fields =>
          exact ⟨fun hno => absurd hno (by simp [made]), fun _ => hpos, fun hno => absurd hno (by simp [made]),
            fun hno => absurd rfl hno⟩
        case counts => constructor <;> simp [tally_some, isHoldOf, isWaitOf, isUpgradeOf, made]

end

end Sys2Proof.Machine
end

section
/-! SUPPORT. Memberships and CLEANUP jobs together: what leaves them in order, the quarantine, and the directory requests
(R32 to R42, R96, R98, R150 to R154). -/

namespace Sys2Proof.Machine

open Sys2Proof.Expect

/-! ### CLEANUP jobs (R96, R98) -/

/-- The slot of a CLEANUP job. -/
def SweepJob.cleanupSlot : SweepJob → Option Nat
  | .cleanup h => some h
  | .teardown _ => none

/-- The slots of the CLEANUP jobs that are pending, in order. -/
def State.cleanupSlots (s : State) : List Nat := s.sweep.filterMap SweepJob.cleanupSlot

theorem SweepJob.cleanupSlot_eq_some_iff {j : SweepJob} {h : Nat} : j.cleanupSlot = some h ↔ j = .cleanup h := by
  cases j <;> simp [SweepJob.cleanupSlot]

theorem State.mem_cleanupSlots {s : State} {h : Nat} : h ∈ s.cleanupSlots ↔ SweepJob.cleanup h ∈ s.sweep := by
  rw [State.cleanupSlots, List.mem_filterMap]
  exact ⟨fun ⟨j, hj, hh⟩ => SweepJob.cleanupSlot_eq_some_iff.mp hh ▸ hj, fun hj => ⟨_, hj, rfl⟩⟩

theorem map_cleanup_cleanupSlot (l : List SweepJob) :
    (l.filterMap SweepJob.cleanupSlot).map SweepJob.cleanup = l.filter isCleanup := by
  induction l with
  | nil => rfl
  | cons j l ih =>
    cases j with
    | teardown a => exact ih
    | cleanup h => exact congrArg (SweepJob.cleanup h :: ·) ih

theorem nodup_cleanups_iff (l : List SweepJob) :
    (l.filter isCleanup).Nodup ↔ (l.filterMap SweepJob.cleanupSlot).Nodup := by
  rw [← map_cleanup_cleanupSlot, List.nodup_map_iff fun _ _ hsame => by injection hsame]

theorem State.cleanupCount_eq_length (s : State) : s.cleanupCount = s.cleanupSlots.length := by
  rw [State.cleanupCount_eq_countP, State.cleanupSlots, List.countP_eq_length_filter, ← map_cleanup_cleanupSlot,
    List.length_map]

theorem cleanupJobsOk_iff_filter (s : State) :
    CleanupJobsOk s ↔
      s.cleanupCount ≤ 8 ∧ (∀ j ∈ s.sweep, CleanupJobOk s j) ∧ (s.sweep.filter isCleanup).Nodup := Iff.rfl

theorem cleanupJobsOk_iff (s : State) :
    CleanupJobsOk s ↔
      s.cleanupSlots.length ≤ 8 ∧ (∀ h ∈ s.cleanupSlots, ∃ r, s.slot h = some (.quarantined false r)) ∧
        s.cleanupSlots.Nodup := by
  have hjob (j : SweepJob) :
      CleanupJobOk s j ↔ ∀ h, j = .cleanup h → ∃ r, s.slot h = some (.quarantined false r) := by
    cases j with
    | teardown a => simp [CleanupJobOk]
    | cleanup h =>
      simp only [CleanupJobOk, SweepJob.cleanup.injEq, forall_eq']
      split
      · next c r hslot => simp [hslot]
      · next hnot =>
        refine ⟨False.elim, fun ⟨r, hr⟩ => hnot _ _ hr⟩
  rw [cleanupJobsOk_iff_filter, nodup_cleanups_iff, State.cleanupCount_eq_length]
  refine and_congr Iff.rfl (and_congr ?_ Iff.rfl)
  constructor
  · intro hall h hh
    exact (hjob _).mp (hall _ (State.mem_cleanupSlots.mp hh)) h rfl
  · intro hall j hj
    rw [hjob]
    rintro h rfl
    exact hall h (State.mem_cleanupSlots.mpr hj)

/-! ### Memberships and CLEANUP jobs -/

/-- Records, memberships, counts and CLEANUP jobs are in order. -/
def RosterOk (s : State) : Prop := MembershipsOk s ∧ CleanupJobsOk s

/-- What leaves the directory, the CLEANUP jobs and the sessions of the members as they are. -/
structure RosterFrame (s t : State) : Prop where
  slots : t.dir.slots = s.dir.slots
  pool : t.dir.pool = s.dir.pool
  counts : ∀ a, CountsKept s t a
  token : s.dir.nextToken = 0 → t.dir.nextToken = 0
  jobs : t.cleanupSlots = s.cleanupSlots
  sessions : ∀ j m, s.member j = some m → (s.session m.agent).state ≠ .closed → (t.session m.agent).state ≠ .closed

section
variable {s t u : State} {h i : Nat} {r : Record} {m : Membership}

theorem RosterFrame.refl (s : State) : RosterFrame s s :=
  ⟨rfl, rfl, fun _ => .of_eq rfl, id, rfl, fun _ _ _ => id⟩

theorem CountsKept.trans {a : AgentId} (hst : CountsKept s t a) (htu : CountsKept t u a) (hpool : t.dir.pool = s.dir.pool) :
    CountsKept s u a where
  holds := htu.holds.trans hst.holds
  waits := htu.waits.trans hst.waits
  upgrades := htu.upgrades.trans hst.upgrades
  nextStamp := by
    rcases htu.nextStamp with hsame | hnobody
    · exact hst.nextStamp.imp hsame.trans id
    · refine .inr fun j m hm => hnobody j m ?_
      rwa [State.member, hpool]

theorem RosterFrame.trans (hst : RosterFrame s t) (htu : RosterFrame t u) : RosterFrame s u where
  slots := htu.slots.trans hst.slots
  pool := htu.pool.trans hst.pool
  counts a := (hst.counts a).trans (htu.counts a) hst.pool
  token := htu.token ∘ hst.token
  jobs := htu.jobs.trans hst.jobs
  sessions j m hm hopen := htu.sessions j m (by rwa [State.member, hst.pool]) (hst.sessions j m hm hopen)

/-- What reaches neither the directory, nor the sweep queue, nor the sessions. -/
theorem RosterFrame.of_eq (hdir : t.dir = s.dir) (hsweep : t.sweep = s.sweep) (hsessions : t.sessions = s.sessions) :
    RosterFrame s t where
  slots := by rw [hdir]
  pool := by rw [hdir]
  counts a := .of_eq (by rw [State.counts, State.counts, hdir])
  token := by rw [hdir]; exact id
  jobs := by rw [State.cleanupSlots, State.cleanupSlots, hsweep]
  sessions j m _ := by rw [State.session, State.session, hsessions]; exact id

theorem ModeratorFrame.roster (hst : ModeratorFrame s t) : RosterFrame s t := .of_eq hst.dir hst.sweep hst.sessions

theorem RosterFrame.slot (hst : RosterFrame s t) (k : Nat) : t.slot k = s.slot k := by
  rw [State.slot, State.slot, hst.slots]

theorem MembershipsOk.of_frame (hs : MembershipsOk s) (hst : RosterFrame s t) : MembershipsOk t := by
  have hcensus := (census_of_membershipsOk hs 0).of_dir hst.slots hst.pool hst.counts hst.token hst.sessions
  refine hcensus.membershipsOk fun r hr => ?_
  rw [State.record, hst.slot, ← State.record] at hr
  exact (settled_of_membershipsOk hs hr).of_token hst.token

theorem RosterOk.of_frame (hs : RosterOk s) (hst : RosterFrame s t) : RosterOk t := by
  obtain ⟨hmemberships, hjobs⟩ := hs
  refine ⟨MembershipsOk.of_frame hmemberships hst, ?_⟩
  rw [cleanupJobsOk_iff] at hjobs ⊢
  obtain ⟨hcount, hslots, hnodup⟩ := hjobs
  rw [hst.jobs]
  exact ⟨hcount, fun h hh => by rw [hst.slot]; exact hslots h hh, hnodup⟩

/-- CLEANUP jobs stay in order while their slots stay. -/
theorem CleanupJobsOk.of_slots (hs : CleanupJobsOk s) (hsweep : t.sweep = s.sweep)
    (hslots : ∀ k x, s.slot k = some (.quarantined false x) → t.slot k = s.slot k) : CleanupJobsOk t := by
  rw [cleanupJobsOk_iff] at hs ⊢
  obtain ⟨hcount, hjobs, hnodup⟩ := hs
  have hsame : t.cleanupSlots = s.cleanupSlots := by rw [State.cleanupSlots, State.cleanupSlots, hsweep]
  rw [hsame]
  refine ⟨hcount, fun h hh => ?_, hnodup⟩
  obtain ⟨x, hx⟩ := hjobs h hh
  exact ⟨x, (hslots h x hx).trans hx⟩

/-- An operation on a LIVE record reaches no slot of a CLEANUP job. -/
theorem RosterOk.worked (hs : RosterOk s) (hr : s.record h = some r) (hsweep : t.sweep = s.sweep)
    (hslots : ∀ k, k ≠ h → t.slot k = s.slot k) (ht : MembershipsOk t) : RosterOk t := by
  refine ⟨ht, CleanupJobsOk.of_slots hs.2 hsweep fun k x hx => hslots k ?_⟩
  rintro rfl
  rw [State.slot_of_record hr] at hx
  cases hx

/-! ### Quarantine and halt (R98, R151 to R154) -/

theorem State.quarantine_slots (h : Nat) (r : Record) (s : State) :
    (s.quarantine h r).dir.slots = Table.put s.dir.slots h (.quarantined false r) ∧
      (s.quarantine h r).dir.pool = s.dir.pool ∧ (s.quarantine h r).dir.counts = s.dir.counts ∧
      (s.quarantine h r).dir.nextToken = s.dir.nextToken ∧ (s.quarantine h r).sessions = s.sessions ∧
      (s.quarantine h r).cleanupSlots =
        if s.cleanupSlots.length < 8 then s.cleanupSlots ++ [h] else s.cleanupSlots := by
  rw [State.quarantine_eq_quarantined, ← State.cleanupCount_eq_length, State.cleanupCount_eq_countP]
  simp only [quarantined]
  split
  · exact ⟨rfl, rfl, rfl, rfl, rfl, List.filterMap_append⟩
  · exact ⟨rfl, rfl, rfl, rfl, rfl, rfl⟩

/-- The quarantine of a LIVE record leaves its members to the cleanup. -/
theorem RosterOk.quarantine (hs : RosterOk s) (hr : s.record h = some r) : RosterOk (s.quarantine h r) := by
  obtain ⟨hmemberships, hjobs⟩ := hs
  obtain ⟨hslots, hpool, hcounts, htoken, hsessions, hcleanups⟩ := State.quarantine_slots h r s
  have hself : (s.quarantine h r).slot h = some (.quarantined false r) := by
    rw [State.slot, hslots, Table.get_put_self]
  have hother (k : Nat) (hk : k ≠ h) : (s.quarantine h r).slot k = s.slot k := by
    rw [State.slot, hslots, Table.get_put_of_ne _ _ hk, State.slot]
  have hvacuous {P : Record → Prop} : ∀ x, (s.quarantine h r).record h = some x → P x := by
    intro x hx
    simp only [State.record, hself] at hx
    cases hx
  constructor
  · refine ((census_of_membershipsOk hmemberships h).slot_changed (fun hc => ⟨?_, by rw [hpool]; exact hc.2⟩) hother hpool
      hcounts htoken hsessions (fun r' k x hr' => hvacuous (P := fun _ => _) r' hr') hvacuous
      fun j x _ hhandle => ?_).membershipsOk hvacuous
    · rw [hslots]
      refine Table.wf_put_of_used _ hc.1 (.inl ?_)
      have hslot := State.slot_of_record hr
      simp only [State.slot] at hslot
      simp [hslot]
    · rw [referenceOk_iff, hhandle]
      exact .inr ⟨r, hself⟩
  · rw [cleanupJobsOk_iff] at hjobs ⊢
    obtain ⟨hcount, hpending, hnodup⟩ := hjobs
    have hnew : h ∉ s.cleanupSlots := fun hh => by
      obtain ⟨x, hx⟩ := hpending h hh
      rw [State.slot_of_record hr] at hx
      cases hx
    have hpending' (k : Nat) (hk : k ∈ s.cleanupSlots) : ∃ x, (s.quarantine h r).slot k = some (.quarantined false x) := by
      rw [hother k (by rintro rfl; exact hnew hk)]
      exact hpending k hk
    rw [hcleanups]
    split
    · next hroom =>
      refine ⟨by simpa using hroom, fun k hk => ?_, ?_⟩
      · rcases List.mem_append.mp hk with hk | hk
        · exact hpending' k hk
        · rw [List.mem_singleton.mp hk]
          exact ⟨r, hself⟩
      · rw [List.nodup_append_comm, List.singleton_append]
        exact List.nodup_cons.mpr ⟨hnew, hnodup⟩
    · exact ⟨hcount, hpending', hnodup⟩

theorem State.memberFault_roster (s : State) : RosterFrame s s.memberFault :=
  ⟨rfl, rfl, fun _ => .of_eq rfl, id, rfl, fun _ _ _ => id⟩

theorem RosterOk.onRecord {op : State → State × Result} (hs : RosterOk s) (hr : s.record h = some r)
    (hop : RosterOk (op s).1) : RosterOk (s.onRecord h r op).1 := by
  simp only [State.onRecord]
  split
  · exact hop
  · exact hs.quarantine hr
  · exact hs.of_frame s.memberFault_roster

end

/-! ### The lease requests -/

section
variable {s : State} {h i : Nat} {r : Record} {m : Membership} {a : AgentId}

theorem State.contendAll_onRecord (h : Nat) (wanted : Mode) (l : List Nat) (s : State) :
    OnRecord h s (s.contendAll h wanted l) := by
  induction l generalizing s with
  | nil => exact .refl h s
  | cons j l ih => exact (s.contend_onRecord h j wanted).trans (ih _)

theorem State.registerDeadline_slot (s : State) (i : Nat) (kind : DeadlineKind) (d : BitVec 16) (k : Nat) :
    (s.registerDeadline i kind d).slot k = s.slot k := by
  simp only [State.registerDeadline]
  repeat' split
  all_goals rfl

theorem releaseHold_rosterOk (hs : RosterOk s) (hr : s.record h = some r) (hi : i ∈ r.holders)
    (hm : s.member i = some m) : RosterOk (releaseHold h r i m s).1 :=
  hs.worked hr (releaseHold_work s h r i m).sweep
    ((s.removeHold_onRecord h i).trans (State.grantPass_onRecord _ h)).slot (releaseHold_membershipsOk hs.1 hr hi hm)

theorem downgradeHold_rosterOk (hs : RosterOk s) (hr : s.record h = some r) (hi : i ∈ r.holders)
    (hm : s.member i = some m) : RosterOk (downgradeHold h r i m s).1 := by
  refine hs.worked hr (downgradeHold_work s h r i m).sweep ?_ (downgradeHold_membershipsOk hs.1 hr hi hm)
  simp only [downgradeHold]
  split
  · exact fun _ _ => rfl
  · exact (((s.editRecord_onRecord h _).trans (State.editMember_onRecord _ h i _)).trans
      (State.grantPass_onRecord _ h)).slot

theorem upgradeNow_slot (tag : Tag) (prompt : Bool) {k : Nat} (hk : k ≠ h) :
    (upgradeNow a tag prompt h i s).1.slot k = s.slot k := by
  simp only [upgradeNow]
  split
  · rfl
  · exact (((State.makeExclusive_onRecord s h i).trans (State.editMember_onRecord _ h i _)).trans
      ((State.countAgent_frame _ a .grants).onRecord.trans (State.contentionCheck_onRecord _ h i))).slot k hk

theorem setUpgrade_slot (tag : Tag) (prompt : Bool) (deadline : BitVec 16) (hr : s.record h = some r)
    (hm : s.member i = some m) {k : Nat} (hk : k ≠ h) :
    (setUpgrade a tag prompt deadline h r i s).1.slot k = s.slot k := by
  by_cases hquota : WaitQuotaApplies s a
  · rw [setUpgrade_of_quota hquota]
  · rw [setUpgrade_of_admitted hr hm hquota]
    refine ((State.contendAll_onRecord h _ _ _).slot k hk).trans ?_
    exact (State.registerDeadline_slot _ i .upgrade deadline k).trans (Table.get_put_of_ne _ _ hk)

theorem upgradeHold_rosterOk (tag : Tag) (prompt : Bool) (deadline : BitVec 16) (hs : RosterOk s)
    (hr : s.record h = some r) (hi : i ∈ r.holders) (hm : s.member i = some m) (hagent : m.agent = a) :
    RosterOk (upgradeHold a tag prompt deadline h r i m s).1 := by
  cases hmode : m.mode with
  | exclusive => simpa only [upgradeHold, hmode] using hs
  | shared =>
    have hsweep := (upgradeHold_work s a tag prompt deadline h r i m (by simp [hm])).sweep
    by_cases hsole : r.holders = [i]
    · simp only [upgradeHold, hmode, if_pos hsole] at hsweep ⊢
      exact hs.worked hr hsweep (fun k hk => upgradeNow_slot tag prompt hk)
        (upgradeNow_membershipsOk a tag prompt hs.1 hr hm hsole)
    · cases hup : r.upgrade with
      | some j =>
        simp only [upgradeHold, hmode, if_neg hsole, hup]
        split <;> exact hs
      | none =>
        rw [upgradeHold_of_shared hmode hsole hup] at hsweep ⊢
        exact hs.worked hr hsweep (fun k hk => setUpgrade_slot tag prompt deadline hr hm hk)
          (setUpgrade_membershipsOk tag prompt deadline hs.1 hr hi hm hagent hmode hsole hup)

theorem cancelOn_rosterOk (a : AgentId) (hs : RosterOk s) (hr : s.record h = some r) :
    RosterOk (cancelOn a h r s).1 := by
  refine hs.worked hr (cancelOn_work s a h r).sweep ?_ (cancelOn_membershipsOk a hs.1 hr)
  simp only [cancelOn]
  repeat' split
  · exact ((s.removeWait_onRecord h _).trans (State.grantPass_onRecord _ h)).slot
  · exact ((s.clearUpgrade_onRecord h _).trans (State.grantPass_onRecord _ h)).slot
  all_goals exact fun _ _ => rfl

theorem grantAtOnce_slot (tag : Tag) (notice : Bool) {k : Nat} (hk : k ≠ h) :
    (grantAtOnce a tag notice h s).1.slot k = s.slot k := by
  simp only [grantAtOnce]
  repeat' split
  all_goals try rfl
  exact (State.editRecord_onRecord _ h _).slot k hk

theorem admitWait_slot (tag : Tag) (mode : Mode) (notice prompt : Bool) (deadline : BitVec 16) {k : Nat} (hk : k ≠ h) :
    (admitWait a tag mode notice prompt deadline h r s).1.slot k = s.slot k := by
  simp only [admitWait]
  repeat' split
  all_goals try rfl
  refine ((State.contendAll_onRecord h _ _ _).slot k hk).trans ?_
  exact (State.registerDeadline_slot ..).trans ((State.editRecord_onRecord _ h _).slot k hk)

theorem acquireExisting_rosterOk (tag : Tag) (mode : Mode) (tryNow prompt notice : Bool) (deadline : BitVec 16)
    (hs : RosterOk s) (hr : s.record h = some r) (hopen : (s.session a).state ≠ .closed) :
    RosterOk (acquireExisting a tag mode tryNow prompt notice deadline h r s).1 := by
  refine hs.worked hr (acquireExisting_work s a tag mode tryNow prompt notice deadline h r).sweep (fun k hk => ?_)
    (acquireExisting_membershipsOk tag mode tryNow prompt notice deadline hs.1 hr hopen)
  simp only [acquireExisting]
  repeat' split
  · rfl
  · rfl
  · exact grantAtOnce_slot tag notice hk
  · rfl
  · exact admitWait_slot tag mode notice prompt deadline hk

theorem createRecord_rosterOk {ns : Byte} {key : Key} (tag : Tag) (mode : Mode) (notice : Bool) (hs : RosterOk s)
    (hopen : (s.session a).state ≠ .closed) (hname : s.findName ns key = none) :
    RosterOk (createRecord a tag ns key mode notice s).1 := by
  refine ⟨createRecord_membershipsOk tag mode notice hs.1 hopen hname,
    CleanupJobsOk.of_slots hs.2 (createRecord_work s a tag ns key mode notice).sweep fun k x hx => ?_⟩
  simp only [createRecord]
  repeat' split
  all_goals try rfl
  next h hslot _ _ _ _ =>
    refine Table.get_put_of_ne _ _ ?_
    rintro rfl
    rw [State.slot, (Table.lowestFree_eq_some.mp hslot).2.1] at hx
    cases hx

end

/-! ### The directory requests -/

section
variable {s : State} {a : AgentId} {q : Request}

/-- A request that names a hold, by what its operation does on the hold. -/
theorem RosterOk.onHold {handle : BitVec 16} {token : Token} {op : Nat → Record → Nat → Membership → State → State × Result}
    (hs : RosterOk s)
    (hop : ∀ h r i m, s.record h = some r → i ∈ r.holders → s.member i = some m → m.agent = a → RosterOk (op h r i m s).1) :
    RosterOk (s.onHold a handle token op).1 := by
  simp only [State.onHold]
  split
  · exact hs
  · exact hs
  · next r hslot =>
    have hr := State.record_of_slot hslot
    refine hs.onRecord hr ?_
    split
    · exact hs
    · next i m hheld =>
      obtain ⟨hm, hagent, hi⟩ := State.memberOf_member hheld
      split
      · exact hs
      · exact hop _ r i m hr hi hm hagent

theorem acquireOp_rosterOk (hs : RosterOk s) (hopen : (s.session a).state ≠ .closed) : RosterOk (acquireOp a q s).1 := by
  simp only [acquireOp]
  split
  · split
    · next hname => exact createRecord_rosterOk _ _ _ hs hopen hname
    · next h r hname =>
      have hr := (State.record_iff_mem hs.1.1.1 h r).mpr (State.findName_mem hname)
      exact hs.onRecord hr (acquireExisting_rosterOk _ _ _ _ _ _ hs hr hopen)
  · exact hs

theorem releaseOp_rosterOk (hs : RosterOk s) : RosterOk (releaseOp a q s).1 := by
  simp only [releaseOp]
  split
  · exact hs.onHold fun h r i m hr hi hm _ => releaseHold_rosterOk hs hr hi hm
  · exact hs

theorem downgradeOp_rosterOk (hs : RosterOk s) : RosterOk (downgradeOp a q s).1 := by
  simp only [downgradeOp]
  split
  · exact hs.onHold fun h r i m hr hi hm _ => downgradeHold_rosterOk hs hr hi hm
  · exact hs

theorem upgradeOp_rosterOk (hs : RosterOk s) : RosterOk (upgradeOp a q s).1 := by
  simp only [upgradeOp]
  split
  · exact hs.onHold fun h r i m hr hi hm hagent => upgradeHold_rosterOk _ _ _ hs hr hi hm hagent
  · exact hs

theorem cancelOp_rosterOk (hs : RosterOk s) : RosterOk (cancelOp a q s).1 := by
  simp only [cancelOp]
  repeat' split
  · exact hs
  · exact hs
  · next hslot =>
    have hr := State.record_of_slot hslot
    exact hs.onRecord hr (cancelOn_rosterOk a hs hr)
  · exact hs

theorem lookupOp_rosterOk (hs : RosterOk s) : RosterOk (lookupOp q s).1 := by
  simp only [lookupOp]
  repeat' split
  · exact hs
  · next h r hname =>
    have hr := (State.record_iff_mem hs.1.1.1 h r).mpr (State.findName_mem hname)
    exact hs.onRecord hr hs
  · exact hs

theorem listEntries_rosterOk (hs : RosterOk s) (l : List (Nat × Membership)) (done : List ListedEntry)
    {failed : State × Result} (hfailed : listEntries s l done = .inl failed) : RosterOk failed.1 := by
  induction l generalizing done with
  | nil => cases hfailed
  | cons e l ih =>
    simp only [listEntries] at hfailed
    repeat' split at hfailed
    · exact ih _ hfailed
    · next hslot _ =>
      cases hfailed
      exact hs.quarantine (State.record_of_slot hslot)
    · exact ih _ hfailed
    · exact ih _ hfailed
    · cases hfailed
      exact hs.of_frame s.memberFault_roster

theorem listOp_rosterOk (hs : RosterOk s) : RosterOk (listOp a q s).1 := by
  simp only [listOp]
  repeat' split
  · next hfailed => exact listEntries_rosterOk hs _ _ hfailed
  · exact hs
  · exact hs

end

end Sys2Proof.Machine
end

section
/-! SUPPORT. The operations that no agent sends, and the damage that the environment does, leave memberships and CLEANUP jobs
in order (R51, R70 to R73, R96 to R108, R150 to R156). -/

namespace Sys2Proof.Machine

open Sys2Proof.Expect

section
variable {s t : State} {h i : Nat} {r : Record} {m : Membership} {a : AgentId}

/-! ### Damage (Chapter 9) -/

/-- A record that fails its check is attached as before. -/
theorem RosterOk.slot_damaged (hs : RosterOk s) (hr : s.record h = some r)
    (hslots : t.dir.slots = Table.put s.dir.slots h (.live { r with checkOk := false })) (hpool : t.dir.pool = s.dir.pool)
    (hcounts : t.dir.counts = s.dir.counts) (htoken : t.dir.nextToken = s.dir.nextToken)
    (hsessions : t.sessions = s.sessions) (hsweep : t.sweep = s.sweep) : RosterOk t := by
  have hcensus := census_of_membershipsOk hs.1 h
  have hslot := State.slot_of_record hr
  have hself : t.record h = some { r with checkOk := false } := by
    simp only [State.record, State.slot, hslots, Table.get_put_self]
  have hother (k : Nat) (hk : k ≠ h) : t.slot k = s.slot k := by
    rw [State.slot, hslots, Table.get_put_of_ne _ _ hk, State.slot]
  have hsame {x : Record} (hx : t.record h = some x) : x = { r with checkOk := false } :=
    Option.some.inj (hx.symm.trans hself)
  refine hs.worked hr hsweep hother ?_
  refine (hcensus.slot_changed (fun hc => ⟨?canonical, by rw [hpool]; exact hc.2⟩) hother hpool hcounts htoken hsessions
    (fun r' k x hr' hk hx => ?names) (fun x hx => ?attached) fun j x hx hhandle => ?reference).membershipsOk
      fun x hx => ?settled
  case canonical =>
    rw [hslots]
    refine Table.wf_put_of_used _ hc.1 (.inl ?_)
    simp only [State.slot] at hslot
    simp [hslot]
  case names =>
    rw [hsame hr']
    rintro ⟨hns, hkey⟩
    exact hk (hcensus.names k h x r hx hr hns hkey)
  case attached =>
    rw [hsame hx]
    exact { (hcensus.attached h r hr).of_members (t := t) fun j _ => by rw [State.member, State.member, hpool] with }
  case reference =>
    rw [referenceOk_iff, hhandle, State.slot_of_record hself]
    have hlisted := hcensus.listed hr hx hhandle
    exact .inl ⟨_, rfl, hlisted⟩
  case settled =>
    rw [hsame hx]
    exact (settled_of_membershipsOk hs.1 hr).of_token fun hzero => htoken.trans hzero

/-- A membership that fails its check stands where it stood. -/
theorem RosterOk.entry_damaged (hs : RosterOk s) (hm : s.member i = some m)
    (ht : Notes i m { m with checkOk := false } s t) (hsweep : t.sweep = s.sweep) : RosterOk t := by
  have hcensus := census_of_membershipsOk hs.1 m.handle
  have hslot (k : Nat) : t.slot k = s.slot k := by rw [State.slot, State.slot, ht.slots]
  have hfields : FieldsOk m := hcensus.fields hm
  refine ⟨(hcensus.noted hm rfl ht hfields).membershipsOk fun r hr => ?_,
    CleanupJobsOk.of_slots hs.2 hsweep fun k _ _ => hslot k⟩
  rw [State.record, hslot, ← State.record] at hr
  exact (settled_of_membershipsOk hs.1 hr).of_token fun hzero => ht.token.trans hzero

theorem RosterOk.sufferUpset (hs : RosterOk s) : RosterOk s.sufferUpset := by
  have hkept (u : List Upset) : RosterOk { s with upsets := u } := hs.of_frame (.of_eq rfl rfl rfl)
  cases hu : s.upsets with
  | nil => rwa [State.sufferUpset_of_nil hu]
  | cons u rest =>
    cases u with
    | none =>
      rw [State.sufferUpset_of_none hu]
      exact hkept rest
    | slot h =>
      cases hr : s.record h with
      | some r =>
        rw [State.sufferUpset_of_slot hu hr]
        exact hs.slot_damaged hr rfl rfl rfl rfl rfl rfl
      | none =>
        rw [State.sufferUpset_of_no_record hu hr]
        exact hkept rest
    | entry i =>
      cases hm : s.member i with
      | some m =>
        rw [State.sufferUpset_of_entry hu hm]
        exact hs.entry_damaged hm ⟨rfl, rfl, rfl, rfl, rfl, rfl, rfl, rfl, rfl, rfl, rfl⟩ rfl
      | none =>
        rw [State.sufferUpset_of_no_member hu hm]
        exact hkept rest

theorem RosterOk.begun (hs : RosterOk s) (x : Requester) : RosterOk (begun x s) :=
  hs.sufferUpset.of_frame (.of_eq rfl rfl rfl)

theorem RosterOk.taken (hs : RosterOk s) (a : AgentId) (q : Request) (rest : List Request) :
    RosterOk (Expect.taken s a q rest) :=
  (hs.begun (.agent a)).of_frame (.of_eq rfl rfl rfl)

theorem ended_roster (s : State) : RosterFrame s (ended s) := .of_eq rfl rfl rfl

/-! ### EXPIRE_WAIT (R70 to R73) -/

theorem expire_rosterOk {e : Deadline} (hs : RosterOk s) (hr : s.record m.handle = some r)
    (hm : s.member e.index = some m) (hfresh : ¬ Stale s e m) : RosterOk (s.expire e m) := by
  have hcensus := census_of_membershipsOk hs.1 m.handle
  have hcount (u : State) : OnRecord m.handle u ((u.count (.agent m.agent .waitExpiries)).grantPass m.handle) :=
    (State.countAgent_frame u _ _).onRecord.trans (State.grantPass_onRecord _ _)
  have hpass {u : State} {x : Notification} {r' : Record} (hu : Census m.handle u) (hr' : u.record m.handle = some r') :
      MembershipsOk (((u.notify m.agent x).count (.agent m.agent .waitExpiries)).grantPass m.handle) :=
    ((hu.moderator (State.notify_frame _ m.agent x)).counted (.agent m.agent .waitExpiries)).grantPass
      ((State.notify_record ..).trans hr')
  refine hs.worked hr (State.expire_work s e m).sweep ?slots ?memberships
  case slots =>
    simp only [State.expire]
    refine (OnRecord.trans ?_ (hcount _)).slot
    split
    · exact (s.removeWait_onRecord _ _).trans (State.notify_frame _ _ _).onRecord
    · exact (s.clearUpgrade_onRecord _ _).trans (State.notify_frame _ _ _).onRecord
  case memberships =>
    simp only [State.expire]
    cases hkind : e.kind with
    | wait =>
      have hrole : m.role = .wait := by
        cases hrole : m.role with
        | wait => rfl
        | hold => exact absurd (.inr (.inr (.inl ⟨hkind, hrole⟩))) hfresh
      exact hpass (hcensus.removeWait hr hm rfl hrole) (State.removeWait_record hr hm)
    | upgrade =>
      have hpending : m.upgradePending = true := by
        cases hpending : m.upgradePending with
        | true => rfl
        | false => exact absurd (.inr (.inr (.inr (.inl ⟨hkind, hpending⟩)))) hfresh
      have hrole : m.role = .hold := by
        cases hrole : m.role with
        | hold => rfl
        | wait =>
          obtain ⟨-, hplain, -⟩ := (hcensus.fields hm).of_wait hrole
          rw [hpending] at hplain
          cases hplain
      exact hpass (hcensus.clearUpgrade hr ((hcensus.pending_iff hr hm rfl hrole).mp hpending))
        (State.clearUpgrade_record hr hm)

theorem expireWait_rosterOk (e : Deadline) (hs : RosterOk s) : RosterOk (s.expireWait e) := by
  have hfault := hs.of_frame s.memberFault_roster
  simp only [State.expireWait]
  split
  · exact hs
  · next m hm =>
    split
    · split
      · exact hs
      · next hfresh =>
        split
        · exact hs
        · next r hr =>
          split
          · exact expire_rosterOk hs hr hm (mt State.staleExpiry_iff.mpr hfresh)
          · exact hs.quarantine hr
          · exact hfault
    · exact hfault

theorem expireOp_rosterOk (hs : RosterOk s) : RosterOk (expireOp s) := by
  simp only [expireOp]
  split
  · exact hs
  · exact expireWait_rosterOk _ (hs.of_frame (.of_eq rfl rfl rfl))

/-! ### Memberships of QUARANTINED slots (R102, R106) -/

theorem freeDetached_rosterOk (hs : RosterOk s) (hm : s.member i = some m) (hnone : s.record m.handle = none) :
    RosterOk (s.freeDetached i m) := by
  have hcensus := census_of_membershipsOk hs.1 m.handle
  have hdir : (detached i m s).dir.slots = s.dir.slots ∧ (detached i m s).dir.pool = Table.free s.dir.pool i ∧
      (detached i m s).dir.nextToken = s.dir.nextToken ∧ (detached i m s).sessions = s.sessions ∧
      (detached i m s).sweep = s.sweep := by
    cases hset : m.deadline.isSome <;> simp only [detached, hset] <;> exact ⟨rfl, rfl, rfl, rfl, rfl⟩
  have hcounts : (detached i m s).dir.counts = Per.put s.dir.counts m.agent
      { s.counts m.agent with
        holds := if m.role = .hold then (s.counts m.agent).holds - 1 else (s.counts m.agent).holds
        waits := if m.role = .wait then (s.counts m.agent).waits - 1 else (s.counts m.agent).waits
        upgrades := if m.upgradePending then (s.counts m.agent).upgrades - 1 else (s.counts m.agent).upgrades } := by
    cases hset : m.deadline.isSome <;> simp only [detached, hset] <;> rfl
  rw [State.freeDetached_eq_detached hm]
  generalize detached i m s = t at hdir hcounts ⊢
  obtain ⟨hslots, hpool, htoken, hsessions, hsweep⟩ := hdir
  have hslot (k : Nat) : t.slot k = s.slot k := by rw [State.slot, State.slot, hslots]
  have hrecord (k : Nat) : t.record k = s.record k := by rw [State.record, State.record, hslot]
  have hself : t.member i = none := by rw [State.member, hpool, Table.get_free_self]
  have htouch : Touches m.handle i m.agent s t :=
    { canonical := fun hc => ⟨by rw [hslots]; exact hc.1, by rw [hpool]; exact Table.wf_free i hc.2⟩
      sessions := hsessions
      token := fun hzero => htoken.trans hzero
      slot := fun k _ => hslot k
      member := fun j hj => by rw [State.member, State.member, hpool, Table.get_free_of_ne _ hj]
      counts := fun b hb => by rw [State.counts, State.counts, hcounts, Per.get_put_of_ne _ _ hb] }
  have hcount : t.counts m.agent = _ := (congrArg (fun c => Per.get c m.agent) hcounts).trans (Per.get_put_self ..)
  have hvacuous {P : Record → Prop} : ∀ x, t.record m.handle = some x → P x := by
    intro x hx
    rw [hrecord, hnone] at hx
    cases hx
  refine ⟨(hcensus.touch htouch (fun r' k x hr' => hvacuous (P := fun _ => _) r' hr') hvacuous (fun x hx => ?_)
    (fun x hx => ?_) (fun j x _ hx _ => ?_) (.inl (by rw [hcount])) ?_).membershipsOk hvacuous,
    CleanupJobsOk.of_slots hs.2 hsweep fun k _ _ => hslot k⟩
  · obtain rfl := Option.some.inj (hm.symm.trans hx)
    exact ⟨rfl, rfl⟩
  · rw [hself] at hx
    cases hx
  · have hreference := ((memberOk_iff s j x).mp (hcensus.members j x hx)).1
    rwa [referenceOk_iff, hslot, ← referenceOk_iff]
  · rw [hcount, hm, hself]
    constructor <;> simp only [tally_some, tally_none, isHoldOf, isWaitOf, isUpgradeOf, true_and, decide_eq_true_iff,
      Nat.add_zero] <;> split <;> rfl

/-! ### TEARDOWN_STEP (R100 to R104) -/

theorem teardownMember_rosterOk (hs : RosterOk s) (hr : s.record m.handle = some r) (hm : s.member i = some m) :
    RosterOk (s.teardownMember i m) := by
  have hcensus := census_of_membershipsOk hs.1 m.handle
  refine hs.worked hr (State.teardownMember_work s i m).sweep ?_ ?_
  · simp only [State.teardownMember]
    split
    · exact ((s.removeHold_onRecord _ _).trans (State.grantPass_onRecord _ _)).slot
    · exact ((s.removeWait_onRecord _ _).trans (State.grantPass_onRecord _ _)).slot
  · cases hrole : m.role with
    | hold =>
      obtain ⟨r', hr', -⟩ := State.removeHold_record hr hm
      simp only [State.teardownMember, hrole]
      exact (hcensus.removeHold hr hm rfl hrole).grantPass hr'
    | wait =>
      simp only [State.teardownMember, hrole]
      exact (hcensus.removeWait hr hm rfl hrole).grantPass (State.removeWait_record hr hm)

/-- The session of an agent without memberships closes. -/
theorem completeTeardown_roster (hnobody : ∀ j x, s.member j = some x → x.agent ≠ a) :
    RosterFrame s (s.completeTeardown a) := by
  rw [State.completeTeardown_eq_closed]
  refine ⟨rfl, rfl, fun _ => .of_eq rfl, id, rfl, fun j x hx hopen => ?_⟩
  rw [State.session, closed]
  exact (congrArg (fun c : Session => c.state ≠ .closed) (Per.get_put_of_ne _ _ (hnobody j x hx))).mpr hopen

theorem teardownStep_rosterOk {rest : List SweepJob} (hjob : s.sweep = .teardown a :: rest) (hs : RosterOk s) :
    RosterOk (s.teardownStep a) := by
  have hheld {e : Nat × Membership} (he : e ∈ s.holdings a) : s.member e.1 = some e.2 := by
    obtain ⟨hmem, -⟩ := (s.mem_holdings_iff a e).mp he
    exact (Table.get_eq_some_iff hs.1.1.2 _ _).mpr hmem
  have hfault := hs.of_frame s.memberFault_roster
  simp only [State.teardownStep]
  split
  · next hnil =>
    have hdropped : RosterFrame s s.dropJob :=
      ⟨rfl, rfl, fun _ => .of_eq rfl, id, by simp only [State.cleanupSlots, State.dropJob, hjob]; rfl, fun _ _ _ => id⟩
    refine hs.of_frame (hdropped.trans (completeTeardown_roster fun j x hx hagent => ?_))
    have hmem : (j, x) ∈ s.holdings a :=
      (s.mem_holdings_iff a (j, x)).mpr ⟨(Table.get_eq_some_iff hs.1.1.2 j x).mp hx, hagent⟩
    rw [hnil] at hmem
    cases hmem
  · next i m behind hlist =>
    have hm : s.member i = some m := hheld (by rw [hlist]; exact List.mem_cons_self)
    split
    · split
      · next r hslot =>
        have hr := State.record_of_slot hslot
        split
        · exact teardownMember_rosterOk hs hr hm
        · exact hs.quarantine hr
        · exact hfault
      · next hslot => exact freeDetached_rosterOk hs hm (by simp only [State.record, hslot])
      · next hslot => exact freeDetached_rosterOk hs hm (by simp only [State.record, hslot])
    · exact hfault

/-! ### CLEANUP_STEP (R106 to R108) -/

/-- A slot that no membership names is marked cleaned, and its job ends. -/
theorem cleanupDone_rosterOk {rest : List SweepJob} (hjob : s.sweep = .cleanup h :: rest) (hs : RosterOk s)
    (hunnamed : ∀ j x, s.member j = some x → x.handle ≠ h) (hslot : s.slot h = some (.quarantined false r)) :
    RosterOk (s.dropJob.putSlot h (.quarantined true r)) := by
  have hcensus := census_of_membershipsOk hs.1 h
  have hself : (s.dropJob.putSlot h (.quarantined true r)).slot h = some (.quarantined true r) := Table.get_put_self _ _ _
  have hother (k : Nat) (hk : k ≠ h) : (s.dropJob.putSlot h (.quarantined true r)).slot k = s.slot k :=
    Table.get_put_of_ne _ _ hk
  have hvacuous {P : Record → Prop} : ∀ x, (s.dropJob.putSlot h (.quarantined true r)).record h = some x → P x := by
    intro x hx
    simp only [State.record, hself] at hx
    cases hx
  constructor
  · refine (hcensus.slot_changed (t := s.dropJob.putSlot h (.quarantined true r))
      (fun hc => ⟨Table.wf_put_of_used _ hc.1 (.inl ?_), hc.2⟩) hother rfl rfl rfl rfl
      (fun r' k x hr' => hvacuous (P := fun _ => _) r' hr') hvacuous
      fun j x hx hhandle => absurd hhandle (hunnamed j x hx)).membershipsOk hvacuous
    simp only [State.slot] at hslot
    change Table.get s.dir.slots h ≠ none
    simp [hslot]
  · have hjobs := hs.2
    have hall : s.cleanupSlots = h :: (s.dropJob.putSlot h (.quarantined true r)).cleanupSlots := by
      simp only [State.cleanupSlots, State.putSlot, State.dropJob, hjob]
      rfl
    rw [cleanupJobsOk_iff, hall] at hjobs
    obtain ⟨hcount, hpending, hnodup⟩ := hjobs
    obtain ⟨hnew, hnodup⟩ := List.nodup_cons.mp hnodup
    rw [cleanupJobsOk_iff]
    refine ⟨Nat.le_of_succ_le hcount, fun k hk => ?_, hnodup⟩
    rw [hother k (by rintro rfl; exact hnew hk)]
    exact hpending k (List.mem_cons_of_mem _ hk)

theorem cleanupStep_rosterOk {rest : List SweepJob} (hjob : s.sweep = .cleanup h :: rest) (hs : RosterOk s) :
    RosterOk (s.cleanupStep h) := by
  obtain ⟨-, hpending, -⟩ := (cleanupJobsOk_iff s).mp hs.2
  obtain ⟨r, hslot⟩ := hpending h (State.mem_cleanupSlots.mpr (by rw [hjob]; exact List.mem_cons_self))
  simp only [State.cleanupStep]
  split
  · next hnaming =>
    have hunnamed (j : Nat) (x : Membership) (hx : s.member j = some x) : x.handle ≠ h := by
      have hnot := List.find?_eq_none.mp hnaming (j, x) ((Table.get_eq_some_iff hs.1.1.2 j x).mp hx)
      simpa using hnot
    have hkept : s.dropJob.slot h = some (.quarantined false r) := hslot
    simp only [hkept]
    exact cleanupDone_rosterOk hjob hs hunnamed hslot
  · next i m hnaming =>
    have hm : s.member i = some m := (Table.get_eq_some_iff hs.1.1.2 i m).mpr (List.mem_of_find?_eq_some hnaming)
    have hhandle : m.handle = h := by
      have hnames := List.find?_some hnaming
      exact of_decide_eq_true hnames
    have hnone : s.record m.handle = none := by simp only [State.record, hhandle, hslot]
    split
    · have hnotified (x : Notification) : RosterOk ((s.notify m.agent x).freeDetached i m) := by
        refine freeDetached_rosterOk (hs.of_frame (State.notify_frame s m.agent x).roster) ?_ ?_
        · rw [State.notify_member, hm]
        · rw [State.notify_record, hnone]
      split
      · exact hnotified _
      · exact hnotified _
      · exact freeDetached_rosterOk hs hm hnone
      · exact freeDetached_rosterOk hs hm hnone
    · exact hs.of_frame s.memberFault_roster

/-! ### Management commands on a record (R51, R63, R156) -/

theorem Census.revokeAll (l : List Nat) (hs : Census h s) (hr : s.record h = some r) (hl : r.holders = l) :
    Census h (s.revokeAll h l) ∧ ∃ r', (s.revokeAll h l).record h = some r' := by
  induction l generalizing s r with
  | nil => exact ⟨hs, r, hr⟩
  | cons i l ih =>
    have hattached := hs.attached h r hr
    obtain ⟨m, hm, hhandle, hrole, -⟩ := holderOk_iff.mp (hattached.holders i (by rw [hl]; exact List.mem_cons_self))
    obtain ⟨r', hr', hholders, -⟩ := State.removeHold_record hr hm
    have hnodup := (List.nodup_append.mp hattached.nodup).1
    rw [hl] at hholders hnodup
    rw [filter_head hnodup] at hholders
    have hrevoke : s.revoke h i = (s.removeHold h i).notify m.agent (.revoked h m.token) := by
      simp only [State.revoke, hm]
    have hnext : Census h (s.revoke h i) ∧ (s.revoke h i).record h = some r' := by
      rw [hrevoke]
      exact ⟨(hs.removeHold hr hm hhandle hrole).moderator (State.notify_frame _ _ _), (State.notify_record ..).trans hr'⟩
    exact ih hnext.1 hnext.2 hholders

theorem State.revokeAll_onRecord (h : Nat) (l : List Nat) (s : State) : OnRecord h s (s.revokeAll h l) := by
  induction l generalizing s with
  | nil => exact .refl h s
  | cons i l ih =>
    refine OnRecord.trans ?_ (ih (s.revoke h i))
    simp only [State.revoke]
    split
    · exact .refl h s
    · exact (s.removeHold_onRecord h i).trans (State.notify_frame _ _ _).onRecord

theorem management_roster (s : State) (m : Management) : RosterFrame s { s with mgmt := m } := .of_eq rfl rfl rfl

theorem breakSlot_rosterOk (hs : RosterOk s) : RosterOk (breakSlot h s) := by
  simp only [breakSlot]
  split
  · exact hs.of_frame (management_roster s _)
  · next r hr =>
    split
    · obtain ⟨hrevoked, r', hr'⟩ := (census_of_membershipsOk hs.1 h).revokeAll r.holders hr rfl
      have hbroken : RosterOk ((s.revokeAll h r.holders).grantPass h) :=
        hs.worked hr ((State.revokeAll_work s h _).trans (State.grantPass_work _ h)).sweep
          ((State.revokeAll_onRecord h _ s).trans (State.grantPass_onRecord _ h)).slot (hrevoked.grantPass hr')
      exact hbroken.of_frame (management_roster _ _)
    · exact (hs.quarantine hr).of_frame (management_roster _ _)
    · exact (hs.of_frame s.memberFault_roster).of_frame (management_roster _ _)

theorem inspectSlot_rosterOk (hs : RosterOk s) : RosterOk (inspectSlot h s) := by
  simp only [inspectSlot]
  repeat' split
  · exact hs.of_frame (management_roster s _)
  · exact hs.of_frame (management_roster s _)
  · exact hs.of_frame (management_roster s _)
  · next _ _ hslot _ _ => exact (hs.quarantine (State.record_of_slot hslot)).of_frame (management_roster _ _)
  · exact (hs.of_frame s.memberFault_roster).of_frame (management_roster _ _)

/-- A cleaned slot is freed: no membership names it and no job is pending for it. -/
theorem clearSlot_rosterOk (hs : RosterOk s) : RosterOk (clearSlot h s) := by
  simp only [clearSlot]
  split
  · next r hslot =>
    have hunnamed (j : Nat) (x : Membership) (hx : s.member j = some x) : x.handle ≠ h := by
      rintro rfl
      have hreference := ((memberOk_iff s j x).mp ((census_of_membershipsOk hs.1 x.handle).members j x hx)).1
      rw [referenceOk_iff, hslot] at hreference
      simp at hreference
    have hfreed : RosterOk (s.freeSlot h) := by
      refine ⟨(census_of_membershipsOk hs.1 h).freeSlot hunnamed, CleanupJobsOk.of_slots hs.2 rfl fun k x hx => ?_⟩
      refine Table.get_free_of_ne _ ?_
      rintro rfl
      rw [hslot] at hx
      cases hx
    exact hfreed.of_frame (management_roster _ _)
  all_goals exact hs.of_frame (management_roster s _)

theorem onHandle_rosterOk {c : IssuedCommand} {op : Nat → State → State} (hs : RosterOk s)
    (hop : ∀ h, RosterOk (op h s)) : RosterOk (onHandle c op s) := by
  simp only [onHandle]
  repeat' split
  · exact hs.of_frame (management_roster s _)
  · exact hs.of_frame (management_roster s _)
  · exact hop _

end

end Sys2Proof.Machine
end

section
/-! SUPPORT. The commands that reach no record, and the statement that every step keeps memberships and CLEANUP jobs in order
(R2 to R6, R10, R13, R80, R96 to R98). -/

namespace Sys2Proof.Machine

open Sys2Proof.Expect

/-! ### Sessions, links and timers -/

section
variable (s : State) (a : AgentId)

/-- A session that is written and stays open. -/
theorem State.putSession_roster {c : Session} (hkept : (s.session a).state ≠ .closed → c.state ≠ .closed) :
    RosterFrame s (s.putSession a c) where
  slots := rfl
  pool := rfl
  counts _ := .of_eq rfl
  token := id
  jobs := rfl
  sessions j m _ hopen := by
    by_cases hagent : m.agent = a
    · rw [hagent] at hopen ⊢
      exact (congrArg (fun c : Session => c.state ≠ .closed) (s.putSession_session_self a c)).mpr (hkept hopen)
    · exact (congrArg (fun c : Session => c.state ≠ .closed) (s.putSession_session_of_ne c hagent)).mpr hopen

theorem State.enterSuspect_roster (cause : SuspectCause) : RosterFrame s (s.enterSuspect a cause) := by
  simp only [State.enterSuspect]
  split
  · exact (s.putSession_roster a fun _ => by simp).trans (State.stallModerator_frame _ a).roster
  · exact .refl s

/-- The TEARDOWN job of the session is no CLEANUP job. -/
theorem State.placeTeardown_roster : RosterFrame s (s.placeJob (.teardown a)) where
  slots := rfl
  pool := rfl
  counts _ := .of_eq rfl
  token := id
  jobs := by
    simp only [State.cleanupSlots, State.placeJob, List.filterMap_append]
    exact List.append_nil _
  sessions _ _ _ := id

theorem State.putPort_roster (p : Port) : RosterFrame s (s.putPort a p) := .of_eq rfl rfl rfl

theorem State.enterRetiring_roster (cause : RetireCause) (tag : Option Tag) :
    RosterFrame s (s.enterRetiring a cause tag) := by
  have hplaced (c : Session) (p : Port) (hopen : c.state ≠ .closed) :
      RosterFrame s ((((s.putSession a c).putPort a p).retireModerator a).placeJob (.teardown a)) :=
    (s.putSession_roster a fun _ => hopen).trans ((State.putPort_roster _ a p).trans
      ((State.retireModerator_frame _ a).roster.trans (State.placeTeardown_roster _ a)))
  cases cause with
  | lapsed => exact (hplaced _ _ (by simp)).trans (management_roster _ _)
  | agentClose => exact hplaced _ _ (by simp)
  | evicted => exact hplaced _ _ (by simp)

theorem State.frameReport_roster (e : Epoch) : RosterFrame s (s.frameReport a e) := by
  simp only [State.frameReport]
  split
  · exact s.putSession_roster a id
  · exact .refl s

theorem State.answerArrival_roster (q : RawRequest) (r : Result) : RosterFrame s (s.answerArrival a q r).1 := by
  simp only [State.answerArrival]
  split <;> exact .of_eq rfl rfl rfl

theorem State.arriveRequest_roster (q : RawRequest) : RosterFrame s (s.arriveRequest a q) := by
  simp only [State.arriveRequest]
  repeat' split
  · exact (s.answerArrival_roster a q _).trans (.of_eq rfl rfl rfl)
  · exact s.answerArrival_roster a q _
  · exact .of_eq rfl rfl rfl
  · exact s.answerArrival_roster a q _
  · exact s.answerArrival_roster a q _
  · exact .of_eq rfl rfl rfl
  · exact s.answerArrival_roster a q _

theorem State.receive_roster (frame : List Byte) : RosterFrame s (s.receive a frame) := by
  simp only [State.receive]
  split
  · split
    · next x _ =>
      cases x with
      | keepalive e => exact s.frameReport_roster a e
      | ack n e => exact (s.frameReport_roster a e).trans (State.judgeAck_frame _ a n e).roster
      | request q => exact (s.frameReport_roster a q.epoch).trans (State.arriveRequest_roster _ a q)
    · exact management_roster s _
  · exact .refl s

theorem State.retransmit_roster : RosterFrame s (s.retransmit a) := by
  simp only [State.retransmit]
  repeat' split
  · exact .refl s
  · exact (s.resend_frame a _ _).roster
  · exact (State.putModerator_frame s a _).roster.trans (State.enterSuspect_roster _ a _)

theorem State.linkDown_roster : RosterFrame s (s.linkDown a) := by
  simp only [State.linkDown]
  split
  · have hdown (p : Port) : RosterFrame s ((s.putPort a p).count (.agent a .linkDowns)) := .of_eq rfl rfl rfl
    exact (hdown _).trans (State.enterSuspect_roster _ a _)
  · exact .refl s

theorem State.transmit_roster : RosterFrame s (s.transmit a) := by
  simp only [State.transmit]
  repeat' split
  all_goals exact .of_eq rfl rfl rfl

/-! ### The management port -/

theorem State.loadFloor_roster (v : Token) : RosterFrame s (s.loadFloor v) := by
  simp only [State.loadFloor]
  split
  · exact management_roster s _
  · split
    · exact management_roster s _
    · next hpos =>
      split
      · exact management_roster s _
      · exact ⟨rfl, rfl, fun _ => .of_eq rfl, fun hzero => absurd (s.exhausted_iff.mpr hzero) hpos, rfl, fun _ _ _ => id⟩

theorem State.enable_roster : RosterFrame s s.enable := by
  simp only [State.enable]
  split
  · exact ⟨rfl, rfl, fun _ => .of_eq rfl, id, rfl, fun _ _ _ => id⟩
  · exact management_roster s _
  · exact management_roster s _

theorem State.evict_roster (arg : Word) : RosterFrame s (s.evict arg) := by
  simp only [State.evict]
  repeat' split
  · exact management_roster s _
  · exact management_roster s _
  · exact (s.enterRetiring_roster _ _ _).trans (management_roster _ _)
  · exact (s.enterRetiring_roster _ _ _).trans (management_roster _ _)
  · exact management_roster s _

theorem State.writeCommand_roster (value : Word) : RosterFrame s (s.writeCommand value) := by
  have hnew : RosterFrame s (s.newResult (value.setWidth 8)) := management_roster s _
  simp only [State.writeCommand]
  split
  · exact management_roster s _
  · split
    · exact hnew.trans (management_roster _ _)
    · exact hnew.trans (State.enable_roster _)
    · exact hnew.trans (State.loadFloor_roster _ _)
    · exact hnew.trans (State.evict_roster _ _)
    · exact hnew.trans (management_roster _ _)

theorem State.writeConfig_roster (r : ConfigReg) (value : Word) : RosterFrame s (s.writeConfig r value) := by
  simp only [State.writeConfig]
  split <;> exact management_roster s _

theorem State.writeRegister_roster (address : BitVec 16) (value : Word) : RosterFrame s (s.writeRegister address value) := by
  simp only [State.writeRegister, State.writePlain]
  repeat' split
  · exact s.writeConfig_roster _ value
  · exact management_roster s _
  · exact management_roster s _
  · exact management_roster s _
  · exact s.writeCommand_roster value
  · exact management_roster s _
  · exact management_roster s _
  · exact .refl s

end

/-! ### Agents' turns -/

section
variable {s t u : State} {a : AgentId}

theorem State.finish_roster (s : State) (a : AgentId) (q : Request) (reply : Reply) : RosterFrame s (s.finish a q reply) := by
  cases reply with
  | none => exact .of_eq rfl rfl rfl
  | executed r => rw [State.finish_executed]; exact .of_eq rfl rfl rfl
  | refused r => exact .of_eq rfl rfl rfl

/-- The agent of a membership has a session that is not CLOSED (R82). -/
theorem RosterOk.no_member_of_closed (hs : RosterOk s) (hclosed : (s.session a).state = .closed) (j : Nat) (m : Membership)
    (hm : s.member j = some m) : m.agent ≠ a := by
  rintro rfl
  obtain ⟨-, -, hopen, -⟩ := (memberOk_iff s j m).mp ((census_of_membershipsOk hs.1 0).members j m hm)
  exact hopen hclosed

/-- The next stamp of an agent without memberships may begin anew (R80). -/
theorem restartStamps_roster (hnobody : ∀ j m, s.member j = some m → m.agent ≠ a) :
    RosterFrame s (s.editCounts a (fun k => { k with nextStamp := 1 })) := by
  refine ⟨rfl, rfl, fun b => ?_, id, rfl, fun _ _ _ => id⟩
  by_cases hb : b = a
  · subst hb
    refine ⟨?_, ?_, ?_, .inr hnobody⟩ <;> simp [State.editCounts, State.putCounts, State.counts]
  · exact .of_eq (Per.get_put_of_ne _ _ hb)

/-- A session opens with a new next stamp, and its agent has no membership yet (R80). -/
theorem openSessionOf_roster (hs : RosterOk s) (hclosed : (s.session a).state = .closed) :
    RosterFrame s (s.openSessionOf a) := by
  have hnobody := hs.no_member_of_closed hclosed
  have hopened (c : Session) (e : Epoch) (p : Port) (hopen : c.state ≠ .closed) :
      RosterFrame s
        ((((s.putSession a c).editCounts a (fun k => { k with nextStamp := 1 })).openModerator a e).putPort a p) :=
    (s.putSession_roster a fun _ => hopen).trans ((restartStamps_roster (s := s.putSession a c) hnobody).trans
      ((State.openModerator_frame _ a e).roster.trans (State.putPort_roster _ a p)))
  exact hopened _ _ _ (by simp)

theorem SessionWork.roster (hs : RosterOk u) (hwork : SessionWork a u t) : RosterFrame u t := by
  cases hwork with
  | unchanged => exact .refl _
  | opened hclosed _ => exact openSessionOf_roster hs hclosed
  | graced _ => exact u.putSession_roster a id
  | resumed _ => exact (u.putSession_roster a fun _ => by simp).trans (State.resumeModerator_frame _ a).roster
  | retired tag _ => exact u.enterRetiring_roster a _ _
  | flushed => exact (u.flushModerator_frame a).roster

theorem agentTurn_rosterOk {k : ReqKind} {op : Request → State → State × Reply} (hs : RosterOk s)
    (hop : ∀ q u, RosterOk u → RosterOk (op q u).1) : RosterOk (s.agentTurn a k op) := by
  rcases State.agentTurn_cases a k op with h | ⟨q, rest, -, -, h⟩
  · rwa [h]
  · rw [h]
    exact (hop q _ (hs.taken a q rest)).of_frame (State.finish_roster _ a q _)

theorem sessionTurn_rosterOk {k : ReqKind} {op : Request → State → State × Reply} (hs : RosterOk s)
    (hop : ∀ q u, SessionWork a u (op q u).1) : RosterOk (s.agentTurn a k op) :=
  agentTurn_rosterOk hs fun q _ hu => hu.of_frame (SessionWork.roster hu (hop q _))

theorem directoryTurn_rosterOk {k : ReqKind} {op : Request → State → State × Result} (hs : RosterOk s)
    (hop : ∀ q u, RosterOk u → (u.session a).state ≠ .closed → RosterOk (op q u).1) :
    RosterOk (s.agentTurn a k (fun q => State.directoryRequest a (op q))) := by
  refine agentTurn_rosterOk hs fun q u hu => ?_
  simp only [State.directoryRequest]
  split
  · exact hu
  · next hpass =>
    refine hop q u hu fun hclosed => ?_
    simp only [State.directoryRefusal, hclosed] at hpass
    cases hpass

/-! ### Turns of the engine's other requesters -/

theorem turn_rosterOk {x : Requester} {op : State → State} (hs : RosterOk s) (hop : RosterOk (op (begun x s))) :
    RosterOk (s.turn x op) := by
  rcases State.turn_cases (s := s) (r := x) op with h | ⟨-, -, h⟩
  · rwa [h]
  · rw [h]
    exact hop.of_frame (ended_roster _)

theorem managementTurn_rosterOk {k : ArbiterCommand} {op : Nat → State → State} (hs : RosterOk s)
    (hop : ∀ h u, RosterOk u → RosterOk (op h u)) : RosterOk (s.managementTurn k (fun c => onHandle c op)) := by
  simp only [State.managementTurn]
  repeat' split
  · exact turn_rosterOk hs (onHandle_rosterOk (hs.begun _) fun h => hop h _ (hs.begun _))
  · exact hs
  · exact hs

/-! ### The resets (R15, R18) -/

/-- An empty directory without CLEANUP jobs is in order. -/
theorem rosterOk_of_empty (hslots : s.dir.slots = []) (hpool : s.dir.pool = []) (hjobs : s.sweep = [])
    (hcounts : ∀ a, (s.counts a).holds = 0 ∧ (s.counts a).waits = 0 ∧ (s.counts a).upgrades = 0) : RosterOk s := by
  refine ⟨⟨?_, ?_, ?_, ?_, fun a => ?_⟩, ?_⟩
  · rw [TablesCanonical, hslots, hpool]
    exact ⟨rfl, rfl⟩
  · rw [namesOk_iff, hslots]
    exact List.nodup_nil
  · simp [hslots]
  · simp [hpool]
  · obtain ⟨hholds, hwaits, hupgrades⟩ := hcounts a
    rw [countsOk_iff, hpool, hholds, hwaits, hupgrades]
    exact ⟨rfl, rfl, rfl, List.nodup_nil⟩
  · rw [cleanupJobsOk_iff]
    simp [State.cleanupSlots, hjobs]

theorem resetDirectory_rosterOk (s : State) : RosterOk s.resetDirectory := by
  refine rosterOk_of_empty rfl rfl rfl fun a => ?_
  simp [State.resetDirectory, State.endDone, Directory.restart, Directory.reset, State.counts, Counts.reset]

theorem powerOn_rosterOk (s : State) : RosterOk s.powerOn := by
  refine rosterOk_of_empty rfl rfl rfl fun a => ?_
  simp [State.powerOn, State.reset, Directory.reset, State.counts, Counts.reset]

/-! ### Every step -/

theorem RosterOk.of_ite {p : Prop} [Decidable p] (hs : RosterOk s) (hst : RosterFrame s t) :
    RosterOk (if p then t else s) := by
  split
  · exact hs.of_frame hst
  · exact hs

theorem exec_rosterOk_of_not_reset {c : Instr} (hpower : c ≠ .powerOnReset) (hreset : c ≠ .resetDirectory)
    (hexec : exec c s = .next t) (hs : RosterOk s) : RosterOk t := by
  cases c <;> first | exact absurd rfl hpower | exact absurd rfl hreset | skip
  all_goals cases hexec
  case linkUp a => exact hs.of_ite (.of_eq rfl rfl rfl)
  case linkDown a => exact hs.of_ite (s.linkDown_roster a)
  case keepalive a frame => exact hs.of_frame (s.receive_roster a frame)
  case ack a frame => exact hs.of_frame (s.receive_roster a frame)
  case request a frame => exact hs.of_frame (s.receive_roster a frame)
  case openSession a => exact sessionTurn_rosterOk hs (openOp_work a)
  case resume a => exact sessionTurn_rosterOk hs (resumeOp_work a)
  case close a => exact sessionTurn_rosterOk hs (closeOp_work a)
  case flush a => exact sessionTurn_rosterOk hs (flushOp_work a)
  case acquire a => exact directoryTurn_rosterOk hs fun q u hu hopen => acquireOp_rosterOk hu hopen
  case release a => exact directoryTurn_rosterOk hs fun q u hu _ => releaseOp_rosterOk hu
  case downgrade a => exact directoryTurn_rosterOk hs fun q u hu _ => downgradeOp_rosterOk hu
  case upgrade a => exact directoryTurn_rosterOk hs fun q u hu _ => upgradeOp_rosterOk hu
  case cancel a => exact directoryTurn_rosterOk hs fun q u hu _ => cancelOp_rosterOk hu
  case lookup a => exact directoryTurn_rosterOk hs fun q u hu _ => lookupOp_rosterOk hu
  case list a => exact directoryTurn_rosterOk hs fun q u hu _ => listOp_rosterOk hu
  case expireWait => exact turn_rosterOk hs (expireOp_rosterOk (hs.begun _))
  case teardownStep =>
    split
    · next hhead =>
      obtain ⟨rest, hjob⟩ := List.head?_eq_some_iff.mp hhead
      exact turn_rosterOk hs (teardownStep_rosterOk (rest := rest) ((State.begun_sweep _ s).trans hjob) (hs.begun _))
    · exact hs
  case cleanupStep =>
    split
    · next hhead =>
      obtain ⟨rest, hjob⟩ := List.head?_eq_some_iff.mp hhead
      exact turn_rosterOk hs (cleanupStep_rosterOk (rest := rest) ((State.begun_sweep _ s).trans hjob) (hs.begun _))
    · exact hs
  case graceTimerExpiry a => exact hs.of_ite (s.enterSuspect_roster a _)
  case lapseTimerExpiry a => exact hs.of_ite (s.enterRetiring_roster a _ _)
  case holdTimerExpiry a => exact hs.of_ite (s.emit_frame a).roster
  case retransmitTimerExpiry a => exact hs.of_ite (s.retransmit_roster a)
  case deadlineFallsDue => exact hs.of_ite (.of_eq rfl rfl rfl)
  case transmitFrame a => exact hs.of_ite (s.transmit_roster a)
  case enableDirectory upper => exact hs.of_ite (s.writeCommand_roster _)
  case loadTokenFloor upper => exact hs.of_ite (s.writeCommand_roster _)
  case evictAgent upper => exact hs.of_ite (s.writeCommand_roster _)
  case breakRecord => exact managementTurn_rosterOk hs fun h u hu => breakSlot_rosterOk hu
  case inspectRecord => exact managementTurn_rosterOk hs fun h u hu => inspectSlot_rosterOk hu
  case clearQuarantine => exact managementTurn_rosterOk hs fun h u hu => clearSlot_rosterOk hu
  case badCommand value => exact hs.of_ite (s.writeCommand_roster value)
  case configurationWrite r value => exact hs.of_ite (s.writeConfig_roster r value)
  case faultSummaryWrite value => exact hs.of_ite (management_roster s _)
  case faultEnableWrite value => exact hs.of_ite (management_roster s _)
  case statisticWrite r value => exact hs.of_ite (management_roster s _)
  case ntokLo => exact hs.of_ite (management_roster s _)
  case registerWrite address value => exact hs.of_ite (s.writeRegister_roster address value)
  case arbiterCommandIssue c upper => exact hs.of_ite (s.writeCommand_roster _)
  case lostCommandWrite value => exact hs.of_ite (s.writeCommand_roster value)
  case frameEnd a => exact hs.of_ite (.of_eq rfl rfl rfl)
  case resetNReturnsHigh => exact hs.of_frame (.of_eq rfl rfl rfl)

/-- Every command but POWER_ON_RESET leaves memberships and CLEANUP jobs in order. -/
theorem exec_rosterOk {c : Instr} (hpower : c ≠ .powerOnReset) (hexec : exec c s = .next t) (hs : RosterOk s) :
    RosterOk t := by
  by_cases hreset : c = .resetDirectory
  · subst hreset
    rcases exec_resetDirectory_cases hexec with rfl | ⟨-, -, rfl⟩
    · exact hs
    · exact (resetDirectory_rosterOk _).of_frame (ended_roster _)
  · exact exec_rosterOk_of_not_reset hpower hreset hexec hs

end

/-- Settles O58: an operation on a record rewrites one record, one entry and one agent's counts, and the grant pass behind it
settles the record; the quarantine and the sweeps hand a slot's members over to the cleanup. -/
theorem stepKeepsTheMemberships : Obligations.StepKeepsTheMemberships := by
  intro s t _ _ hmemberships hjobs hstep
  refine step_keeps (P := RosterOk) (fun s rest hs => hs.of_frame (.of_eq rfl rfl rfl)) powerOn_rosterOk
    (fun c s t hc hexec hs => exec_rosterOk hc hexec hs) (fun s hs => ?_) ⟨hmemberships, hjobs⟩ hstep
  rcases s.idle_eq with h | ⟨-, h⟩ <;> rw [h]
  · exact hs
  · exact hs.of_frame (.of_eq rfl rfl rfl)

end Sys2Proof.Machine
end
